-- ==== Sys2Proof/Word.lean ====
section
/-! DEFINITION. The word types of the block (00_scope.md R6: bit 0 is the least significant bit). -/

namespace Sys2Proof

/-- One byte of a command line or of a link slot. -/
abbrev Byte := BitVec 8

/-- One word of a command or status frame (R5: `WORD_W` = 16). -/
abbrev Word16 := BitVec 16

/-- One slot of the memory link (20_memory.md R56). -/
abbrev Slot := BitVec 32

/-- An operation-kind code (30_encoding.md R90). -/
abbrev Opk := BitVec 5

end Sys2Proof
end

