-- ==== Sys2Proof/Syntax.lean ====
section
/-! DEFINITION. The instructions (one constructor for each row of spec/opcode_table.json, 30_encoding.md R90), their classes,
the enumerations of 00_scope.md R9 and the entries of the command table (41_command_table.md R140). -/

namespace Sys2Proof

/-- The operation kinds of R90. Every operand is fixed by the code, so no constructor takes an argument. -/
inductive Instr where
  | reserved00
  | thr17 | thr33 | thr84 | thr166
  | setDry | setWet
  | syncOn | syncOff
  | tglAA | tglAB | tglCA | tglCB | tglCC
  | rlyOn | rlyOff
  | qThr | qRd | qFull | qCpld
  | mHelp | mExit | mDebug
  | reserved17 | reserved18 | reserved19 | reserved1A | reserved1B | reserved1C | reserved1D | reserved1E
  | endMark
deriving DecidableEq, Repr

/-- The classes of operation kinds (R91). -/
inductive OpkClass where
  | write | query | metaCommand | reserved | sentinel
deriving DecidableEq, Repr

/-- `CmdType` of R9. -/
inductive CmdType where
  | read | write | cpldRevisionQuery
deriving DecidableEq, Repr

/-- `Threshold` of R9. -/
inductive Threshold where
  | v17 | v33 | v84 | v166
deriving DecidableEq, Repr

/-- `DryWet` of R9. -/
inductive DryWet where
  | dry | wet
deriving DecidableEq, Repr

/-- `SyncMode` of R9. -/
inductive SyncMode where
  | noSync | sync
deriving DecidableEq, Repr

/-- `Relay` of R9, in the source's order. -/
inductive Relay where
  | aa | ab | ca | cb | cc
deriving DecidableEq, Repr

/-- `Err` of R9: the result code of a transaction (60_exceptions.md R250). -/
inductive Err where
  | ok | notFound | badIndex | badOpk
deriving DecidableEq, Repr

/-- `Meta` of R9: the meta-command code (45_meta_commands.md R240). -/
inductive MetaCode where
  | none | help | exit | debug
deriving DecidableEq, Repr

/-- The byte order of a link slot (20_memory.md R57). -/
inductive ByteOrder where
  | little | big
deriving DecidableEq, Repr

/-- One entry of `CMD_ROM` (R140): a name as bytes (30_encoding.md R97) and an operation-kind code. -/
structure Entry where
  name : List Byte
  opk : Opk
deriving DecidableEq, Repr

end Sys2Proof
end

