-- ==== Sys2Proof/Config.lean ====
section
/-! DEFINITION. The configuration record `Cfg` of 00_scope.md R5, the fixed sizes, the default command table (41_command_table.md
R142), and the constants without a body that stand for what the spec leaves OPEN. -/

namespace Sys2Proof

/-- The configuration record of R5. A machine state carries one and no step changes it (R282), so that a statement about every state
is a statement about every configuration. -/
structure Cfg where
  header : Word16
  footer : Word16
  relayHi : BitVec 8
  moduleId : BitVec 2
  ctWrite : BitVec 2
  ctRead : BitVec 2
  ctCpld : BitVec 2
  dwWet : BitVec 1
  syncSync : BitVec 1
  pFe : Fin 16
  pCe : Fin 16
  pRr : Fin 16
  pCoil : Fin 16
  cmdRom : List Entry
  lineMax : Nat
  cmdBase : Nat
  statusBase : Nat
  cpldBase : Nat
  byteOrder : ByteOrder
  delayD : Nat
deriving DecidableEq, Repr

/-- `CMD_WORDS` of R5. -/
abbrev Config.cmdWords : Nat := 5
/-- `STATUS_WORDS` of R5. -/
abbrev Config.statusWords : Nat := 7
/-- `CPLD_WORDS` of R5. -/
abbrev Config.cpldWords : Nat := 2
/-- `SLOT_BYTES` of R5. -/
abbrev Config.slotBytes : Nat := 4
/-- `SH_MOD` of R5. -/
abbrev Config.shMod : Nat := 128

/-- The default command table (R142, `ROM_LEN` = 22; the bytes are those of 95_test_vectors.md 2.3). Its pattern and placeholder names are
the spec's choice (D17), and no statement rests on one. -/
def Config.defaultRom : List Entry :=
  [ ⟨[0x74, 0x68, 0x72, 0x65, 0x73, 0x68, 0x5F, 0x31, 0x37], 0x01⟩,        -- thresh_17
    ⟨[0x74, 0x68, 0x72, 0x65, 0x73, 0x68, 0x5F, 0x33, 0x33], 0x02⟩,        -- thresh_33
    ⟨[0x74, 0x68, 0x72, 0x65, 0x73, 0x68, 0x5F, 0x38, 0x34], 0x03⟩,        -- thresh_84
    ⟨[0x74, 0x68, 0x72, 0x65, 0x73, 0x68, 0x5F, 0x31, 0x36, 0x36], 0x04⟩,  -- thresh_166
    ⟨[0x64, 0x72, 0x79], 0x05⟩,                                            -- dry
    ⟨[0x77, 0x65, 0x74], 0x06⟩,                                            -- wet
    ⟨[0x73, 0x79, 0x6E, 0x63], 0x07⟩,                                      -- sync
    ⟨[0x6E, 0x6F, 0x73, 0x79, 0x6E, 0x63], 0x08⟩,                          -- nosync
    ⟨[0x72, 0x65, 0x6C, 0x61, 0x79, 0x5F, 0x61, 0x61], 0x09⟩,              -- relay_aa
    ⟨[0x72, 0x65, 0x6C, 0x61, 0x79, 0x5F, 0x61, 0x62], 0x0A⟩,              -- relay_ab
    ⟨[0x72, 0x65, 0x6C, 0x61, 0x79, 0x5F, 0x63, 0x61], 0x0B⟩ ] ++          -- relay_ca
  [ ⟨[0x72, 0x65, 0x6C, 0x61, 0x79, 0x5F, 0x63, 0x62], 0x0C⟩,              -- relay_cb
    ⟨[0x72, 0x65, 0x6C, 0x61, 0x79, 0x5F, 0x63, 0x63], 0x0D⟩,              -- relay_cc
    ⟨[0x72, 0x65, 0x6C, 0x61, 0x79, 0x73, 0x5F, 0x6F, 0x6E], 0x0E⟩,        -- relays_on
    ⟨[0x72, 0x65, 0x6C, 0x61, 0x79, 0x73, 0x5F, 0x6F, 0x66, 0x66], 0x0F⟩,  -- relays_off
    ⟨[0x74, 0x68, 0x72, 0x65, 0x73, 0x68, 0x5F, 0x3F], 0x10⟩,              -- thresh_?
    ⟨[0x73, 0x74, 0x61, 0x74, 0x75, 0x73, 0x3F], 0x12⟩,                    -- status?
    ⟨[0x63, 0x70, 0x6C, 0x64, 0x5F, 0x72, 0x65, 0x76, 0x3F], 0x13⟩,        -- cpld_rev?
    ⟨[0x2D, 0x68, 0x65, 0x6C, 0x70], 0x14⟩,                                -- -help
    ⟨[0x65, 0x78, 0x69, 0x74], 0x15⟩,                                      -- exit
    ⟨[0x64, 0x65, 0x62, 0x75, 0x67], 0x16⟩,                                -- debug
    ⟨[], 0x1F⟩ ]                                                           -- the sentinel

/-! The OPEN parameters of R5 for the unit that `State.reset` is the reset state of (notes/assumptions/2.md). -/

/-- `HEADER` (30_encoding.md R76). -/
opaque Config.header : Word16
/-- `FOOTER` (R80). -/
opaque Config.footer : Word16
/-- `RELAY_HI` (R78). -/
opaque Config.relayHi : BitVec 8
/-- `MODULE_ID` (10_state.md R22). -/
opaque Config.moduleId : BitVec 2
/-- Which of its two possible values `CT_CPLD` has (R70): 0b11 if true, 0b00 if false. -/
opaque Config.cpldCodeIsHigh : Bool
/-- `P_FE` (R83). -/
opaque Config.pFe : Fin 16
/-- `P_CE` (R83). -/
opaque Config.pCe : Fin 16
/-- `P_RR` (R83). -/
opaque Config.pRr : Fin 16
/-- `P_COIL` (R83). -/
opaque Config.pCoil : Fin 16
/-- `LINE_MAX` less one (41_command_table.md R143; R5: at least 1). -/
opaque Config.lineMaxPred : Nat
/-- The slot number of `CMD_BASE` (20_memory.md R51, R55: a multiple of 4). -/
opaque Config.cmdSlot : Nat
/-- The slot number of `STATUS_BASE`. -/
opaque Config.statusSlot : Nat
/-- The slot number of `CPLD_BASE`. -/
opaque Config.cpldSlot : Nat
/-- `DELAY_D` in the host's time units (60_exceptions.md R264). -/
opaque Config.delayD : Nat

/-- The configuration of the unit: the source's values and the spec's defaults of R5, the rest OPEN. -/
def Config.unit : Cfg where
  header := Config.header
  footer := Config.footer
  relayHi := Config.relayHi
  moduleId := Config.moduleId
  ctWrite := 0b01
  ctRead := 0b10
  ctCpld := if Config.cpldCodeIsHigh then 0b11 else 0b00
  dwWet := 1
  syncSync := 1
  pFe := Config.pFe
  pCe := Config.pCe
  pRr := Config.pRr
  pCoil := Config.pCoil
  cmdRom := Config.defaultRom
  lineMax := Config.lineMaxPred + 1
  cmdBase := 4 * Config.cmdSlot
  statusBase := 4 * Config.statusSlot
  cpldBase := 4 * Config.cpldSlot
  byteOrder := .little
  delayD := Config.delayD

/-! Free values (notes/assumptions/6.md, notes/assumptions/7.md). -/

/-- What `status_in[k]` carries before the host has presented a word (R270: any value). -/
opaque Config.undrivenStatus : Nat → Word16
/-- What `cpld_in[k]` carries before the host has presented a word. -/
opaque Config.undrivenCpld : Nat → Word16
/-- The byte the UUT answers at a link address nothing has written, at the given draw (20_memory.md R62, 60_exceptions.md R270). -/
opaque Config.freeLinkByte : Nat → Nat → Byte

end Sys2Proof
end

