-- ==== Sys2Proof/WellFormed.lean ====
section
/-! DEFINITION. What the spec refuses before a run: a command table that fails 41_command_table.md R144, and a configuration outside the
constraints of 00_scope.md R5 and 20_memory.md R51, R55. An instruction has no operands, so every `Instr` is well formed. -/

namespace Sys2Proof

/-- `END` of 41_command_table.md R140. -/
def Opk.endCode : Opk := 0x1F

/-- The reserved codes (30_encoding.md R91): 0x00 and 0x17 to 0x1E. -/
def Opk.isReserved (k : Opk) : Bool := k == 0x00 || (0x17 ≤ k && k ≤ 0x1E)

/-- R144 (a): the last entry is the sentinel. -/
def Rom.sentinelLast (rom : List Entry) : Bool := rom.getLast? == some ⟨[], Opk.endCode⟩

/-- R144 (b): no entry before the last has an empty name or the code END. -/
def Rom.entriesNamed (rom : List Entry) : Bool := rom.dropLast.all fun e => !e.name.isEmpty && e.opk != Opk.endCode

/-- R144 (c): all names are distinct. -/
def Rom.namesDistinct (rom : List Entry) : Bool := decide (rom.map Entry.name).Nodup

/-- R144 (d): no entry has a reserved code. -/
def Rom.noReserved (rom : List Entry) : Bool := rom.all fun e => !Opk.isReserved e.opk

/-- R144 (e): names fit the line bound and hold no CR or LF. -/
def Rom.namesFit (lineMax : Nat) (rom : List Entry) : Bool :=
  rom.all fun e => decide (e.name.length ≤ lineMax) && e.name.all fun b => b != 0x0D && b != 0x0A

/-- A well-formed command table (R144). -/
def Rom.wf (lineMax : Nat) (rom : List Entry) : Bool :=
  Rom.sentinelLast rom && Rom.entriesNamed rom && Rom.namesDistinct rom && Rom.noReserved rom && Rom.namesFit lineMax rom

/-- R5, R70: the three command_type codes are pairwise distinct and `CT_CPLD` is 0b00 or 0b11. -/
def Cfg.codesWf (c : Cfg) : Bool :=
  c.ctWrite != c.ctRead && c.ctWrite != c.ctCpld && c.ctRead != c.ctCpld && (c.ctCpld == 0b00 || c.ctCpld == 0b11)

/-- R5, R83: the four flag positions are pairwise distinct and none lies in 8..11. -/
def Cfg.flagsWf (c : Cfg) : Bool :=
  decide [c.pFe, c.pCe, c.pRr, c.pCoil].Nodup && [c.pFe, c.pCe, c.pRr, c.pCoil].all fun p => decide (p.val < 8 ∨ 11 < p.val)

/-- R5: `LINE_MAX` is at least 1. -/
def Cfg.lineMaxWf (c : Cfg) : Bool := decide (1 ≤ c.lineMax)

/-- R55: the three bases are multiples of 4. -/
def Cfg.aligned (c : Cfg) : Bool := c.cmdBase % 4 == 0 && c.statusBase % 4 == 0 && c.cpldBase % 4 == 0

/-- R51 and 90_conflicts.md C5: the CPLD pair is not within the seven status slots. -/
def Cfg.cpldApart (c : Cfg) : Bool := decide (c.cpldBase + 16 ≤ c.statusBase ∨ c.statusBase + 28 ≤ c.cpldBase + 8)

/-- A configuration the model runs (R5, R55, R144). -/
def Cfg.wf (c : Cfg) : Bool :=
  c.codesWf && c.flagsWf && c.lineMaxWf && c.aligned && c.cpldApart && Rom.wf c.lineMax c.cmdRom

end Sys2Proof
end

