-- ==== Sys2Proof/Decode.lean ====
section
/-! DEFINITION. The decoder of operation-kind codes (30_encoding.md R90), its byte form, and the encoder, both written from the
OPK map and the "encoding" column of spec/opcode_table.json. -/

namespace Sys2Proof

/-- The operation kind of each 5-bit code, bit 4 first (R90: "Every 5-bit value appears once in the map."). -/
def decodeOpk (k : Opk) : Instr :=
  match k[4], k[3], k[2], k[1], k[0] with
  | false, false, false, false, false => .reserved00
  | false, false, false, false, true  => .thr17
  | false, false, false, true , false => .thr33
  | false, false, false, true , true  => .thr84
  | false, false, true , false, false => .thr166
  | false, false, true , false, true  => .setDry
  | false, false, true , true , false => .setWet
  | false, false, true , true , true  => .syncOn
  | false, true , false, false, false => .syncOff
  | false, true , false, false, true  => .tglAA
  | false, true , false, true , false => .tglAB
  | false, true , false, true , true  => .tglCA
  | false, true , true , false, false => .tglCB
  | false, true , true , false, true  => .tglCC
  | false, true , true , true , false => .rlyOn
  | false, true , true , true , true  => .rlyOff
  | true , false, false, false, false => .qThr
  | true , false, false, false, true  => .qRd
  | true , false, false, true , false => .qFull
  | true , false, false, true , true  => .qCpld
  | true , false, true , false, false => .mHelp
  | true , false, true , false, true  => .mExit
  | true , false, true , true , false => .mDebug
  | true , false, true , true , true  => .reserved17
  | true , true , false, false, false => .reserved18
  | true , true , false, false, true  => .reserved19
  | true , true , false, true , false => .reserved1A
  | true , true , false, true , true  => .reserved1B
  | true , true , true , false, false => .reserved1C
  | true , true , true , false, true  => .reserved1D
  | true , true , true , true , false => .reserved1E
  | true , true , true , true , true  => .endMark

/-- Why a byte sequence is no instruction. -/
inductive DecodeError where
  /-- There is no byte to decode. -/
  | noByte
  /-- The byte is above 0x1F: bits 7:5 lie outside the OPK5 format, which is 5 bits wide (R90). -/
  | notOpk5 (b : Byte)
deriving DecidableEq, Repr

/-- Decode the instruction at the head of a byte sequence, one code to a byte; total, refusing by name. -/
def decode (bytes : List Byte) : Except DecodeError (Instr × List Byte) :=
  match bytes with
  | [] => .error .noByte
  | b :: rest => if b.toNat < 32 then .ok (decodeOpk (b.setWidth 5), rest) else .error (.notOpk5 b)

/-- The instruction of an opcode-table word (host interface): `w` laid out in its bytes and decoded. -/
def decodeTableWord (nbits w : Nat) : Option Instr :=
  if nbits = 0 ∨ 256 ≤ w then none
  else match decode [BitVec.ofNat 8 w] with
    | .ok (i, _) => some i
    | .error _ => none

/-- The code of each operation kind (R90, the OPK map). -/
def encodeOpk (i : Instr) : Opk :=
  match i with
  | .reserved00 => 0x00
  | .thr17 => 0x01
  | .thr33 => 0x02
  | .thr84 => 0x03
  | .thr166 => 0x04
  | .setDry => 0x05
  | .setWet => 0x06
  | .syncOn => 0x07
  | .syncOff => 0x08
  | .tglAA => 0x09
  | .tglAB => 0x0A
  | .tglCA => 0x0B
  | .tglCB => 0x0C
  | .tglCC => 0x0D
  | .rlyOn => 0x0E
  | .rlyOff => 0x0F
  | .qThr => 0x10
  | .qRd => 0x11
  | .qFull => 0x12
  | .qCpld => 0x13
  | .mHelp => 0x14
  | .mExit => 0x15
  | .mDebug => 0x16
  | .reserved17 => 0x17
  | .reserved18 => 0x18
  | .reserved19 => 0x19
  | .reserved1A => 0x1A
  | .reserved1B => 0x1B
  | .reserved1C => 0x1C
  | .reserved1D => 0x1D
  | .reserved1E => 0x1E
  | .endMark => 0x1F

/-- The bytes of an instruction: its code, zero-extended to one byte. -/
def encode (i : Instr) : List Byte := [(encodeOpk i).setWidth 8]

/-- The class of an operation kind (R91). -/
def opkClass (i : Instr) : OpkClass :=
  match i with
  | .reserved00 => .reserved
  | .thr17 => .write
  | .thr33 => .write
  | .thr84 => .write
  | .thr166 => .write
  | .setDry => .write
  | .setWet => .write
  | .syncOn => .write
  | .syncOff => .write
  | .tglAA => .write
  | .tglAB => .write
  | .tglCA => .write
  | .tglCB => .write
  | .tglCC => .write
  | .rlyOn => .write
  | .rlyOff => .write
  | .qThr => .query
  | .qRd => .query
  | .qFull => .query
  | .qCpld => .query
  | .mHelp => .metaCommand
  | .mExit => .metaCommand
  | .mDebug => .metaCommand
  | .reserved17 => .reserved
  | .reserved18 => .reserved
  | .reserved19 => .reserved
  | .reserved1A => .reserved
  | .reserved1B => .reserved
  | .reserved1C => .reserved
  | .reserved1D => .reserved
  | .reserved1E => .reserved
  | .endMark => .sentinel

/-- The dispatching kinds are those that produce a frame (R91). -/
def isDispatching (i : Instr) : Bool := opkClass i == .write || opkClass i == .query

end Sys2Proof
end

