-- ==== Sys2Proof/Machine/State.lean ====
section
/-! DEFINITION. The machine's state as plain data: the register file of 10_state.md R20, the output record of 42_dispatch.md R160, the
decoder's input ports, the memory link, the host's progress and the moves to come; the reasons a step can stop; the reset state. -/

namespace Sys2Proof.Machine

open Sys2Proof

/-- The command frame: 5 words of 16 bits, in this order (30_encoding.md R75). -/
structure Frame where
  header : Word16
  control : Word16
  relay : Word16
  inverse : Word16
  footer : Word16
deriving DecidableEq, Repr

/-- The output record of a step (R160). -/
structure Out where
  err : Err
  metaCode : MetaCode
  frame : Option Frame
  pendingRead : Bool
  readCpld : Bool
  resetReq : Bool
  index : Option Nat
  opk : Option Opk
deriving DecidableEq, Repr

/-- The idle value of the output record (R160). -/
def Out.idle : Out :=
  { err := .ok, metaCode := .none, frame := none, pendingRead := false, readCpld := false, resetReq := false,
    index := none, opk := none }

/-- The seven words of the status port (00_scope.md R4, 30_encoding.md R81). -/
abbrev StatusWords := Vector Word16 7

/-- The two words of the CPLD port (R4, R87): month/day, then year/revision. -/
abbrev CpldWords := Vector Word16 2

/-- The record of the `st` observation port (10_state.md R36). -/
structure RegFile where
  ct : CmdType
  mid : BitVec 2
  thr : Threshold
  dw : DryWet
  sync : SyncMode
  sh : BitVec 7
  rly : BitVec 5
deriving DecidableEq, Repr

/-- The memory link (20_memory.md R51): the bytes something has written, by address, addresses strictly rising
(`Memory.wf`). An unlisted address holds no value (notes/assumptions/7.md). -/
abbrev Memory := List Host.Cell

/-- How far the host is with the transaction whose output record is `State.out` (20_memory.md R61). The model's own field. -/
structure Txn where
  /-- The link reset has been pulsed (60_exceptions.md R263). -/
  pulsed : Bool
  /-- How many frame words have been written (R52, R262). -/
  written : Nat
  /-- The time waited since the last frame word was written (R264). -/
  waited : Nat
  /-- The words of the status slots read so far, first slot first (R53): in the host's hands until it presents them. -/
  statusRead : List Word16
  /-- The words of the CPLD slots read so far, first slot first (R54): in the host's hands until it presents them. -/
  cpldRead : List Word16
  /-- The words read have been presented to the decoder (R61 step 6). -/
  presented : Bool
  /-- A link access failed and the host gave the transaction up (42_dispatch.md R167). -/
  abandoned : Bool
deriving DecidableEq, Repr

/-- Nothing of the transaction done yet. -/
def Txn.fresh : Txn :=
  { pulsed := false, written := 0, waited := 0, statusRead := [], cpldRead := [], presented := false, abandoned := false }

/-- A move of the host on the link (R61, R262 to R264, 70_reset_and_hazards.md R285). -/
inductive HostAct where
  /-- Pulse the link's hardware reset (R263). -/
  | pulse
  /-- Write frame word `k` to its slot (R52). -/
  | writeWord (k : Nat)
  /-- Let `t` time units pass (R264). -/
  | wait (t : Nat)
  /-- Read status slot `k` (R53, R61 step 4). -/
  | readStatus (k : Nat)
  /-- Read CPLD slot `k` (R54, R61 step 5). -/
  | readCpld (k : Nat)
  /-- Present the words read to the decoder (R61 step 6); `unasked` is what the host puts on `cpld_in` where the pair was not requested: any
  value (40_frame_codec.md R128, 60_exceptions.md R270). -/
  | present (unasked : CpldWords)
  /-- The link access failed: report and give the transaction up (R167, R285). -/
  | linkFailed
  /-- Start sending the frame it already has again (R285). -/
  | resend
deriving DecidableEq, Repr

/-- One input of the machine (R4), a move of the host, or a move of the UUT (R270). -/
inductive Event where
  /-- Session start (70_reset_and_hazards.md R280). -/
  | rst
  /-- A line on `cmd_line` (R161). -/
  | line (text : List Byte)
  /-- A console line of any length, which the external reader truncates to `LINE_MAX` bytes (41_command_table.md R143, R151). -/
  | console (text : List Byte)
  /-- A natural number on `cmd_index` (R161). -/
  | index (i : Nat)
  /-- A move of the host on the link. -/
  | host (act : HostAct)
  /-- The UUT puts a value in the link slot at address `4 * slot` (R58, R270). -/
  | uut (slot : Nat) (v : Slot)
deriving DecidableEq, Repr

/-- The machine's state. `MID` has no storage: it is hard-wired (10_state.md R22) and read by `State.mid`. -/
structure State where
  /-- The configuration, the constant command table in it (R34); no step writes it (R282). -/
  cfg : Cfg
  /-- `CT` (R21). -/
  ct : CmdType
  /-- `THR` (R23). -/
  thr : Threshold
  /-- `DW` (R24). -/
  dw : DryWet
  /-- `SYNC` (R26). -/
  sync : SyncMode
  /-- `SH` (R27). -/
  sh : BitVec 7
  /-- `RLY` (R28): bit i is relay i of 30_encoding.md R74. -/
  rly : BitVec 5
  /-- The output record of the last block step (R160). -/
  out : Out
  /-- `status_in` (R4). -/
  statusIn : StatusWords
  /-- `cpld_in` (R4). -/
  cpldIn : CpldWords
  /-- The memory link. -/
  link : Memory
  /-- The host's progress. -/
  txn : Txn
  /-- The moves to come, first move first (10_state.md R25). -/
  inbox : List Event
  /-- How many slots have been read: the counter of the free link bytes. -/
  draws : Nat
deriving DecidableEq, Repr

/-- Why a step is stuck: the host broke its contract, so the run is outside every claim (93_implementation_defined.md I16).
The block itself raises none of them; every one is safe (the model stops where the hardware goes on). -/
inductive Fault where
  /-- A command was presented before the host had finished with the previous output record (R265, R290). Safe. -/
  | commandBeforeDone
  /-- The link reset was pulsed unasked, twice, or after the frame write began (R263, R286). Safe. -/
  | pulseOutOfPlace
  /-- A frame word was written with no frame present, out of order, or before a requested pulse (R61, R286, R288). Safe. -/
  | writeOutOfPlace
  /-- A status slot was read out of order, before the frame was written, or before `DELAY_D` had passed (R61, R264, R287). Safe. -/
  | statusReadOutOfPlace
  /-- A CPLD slot was read unasked, out of order, or before the status (R54, R61, R264). Safe. -/
  | cpldReadOutOfPlace
  /-- The words were presented before all of them were read, or twice (R61, R264). Safe. -/
  | presentOutOfPlace
  /-- A link failure or a resend was reported with no frame present (R285). Safe. -/
  | noFrameToSend
deriving DecidableEq, Repr

/-- Why the model gives a step no meaning. -/
inductive Refusal where
  /-- An instruction without a meaning yet; raised by `exec` only. Safe. -/
  | notModelled (mnemonic : String)
  /-- A configuration or command table that is not well formed, refused at construction by `boot` (R5, R144). Safe. -/
  | badConfig
  /-- A link access in a region whose base is not a multiple of 4 (20_memory.md R55); raised by the host's moves. Safe. -/
  | unalignedBase
deriving DecidableEq, Repr

/-- The outcome of a step of this machine. -/
abbrev Outcome := Host.Outcome State Fault Refusal

/-- The state right after reset of a unit with configuration `c` (R280): the registers of S0, an idle output record, nothing on the link
that the model knows of, no move to come. -/
def State.resetWith (c : Cfg) : State where
  cfg := c
  ct := .read
  thr := .v166
  dw := .wet
  sync := .noSync
  sh := 0
  rly := 0b00000
  out := Out.idle
  statusIn := Vector.ofFn fun k => Config.undrivenStatus k.val
  cpldIn := Vector.ofFn fun k => Config.undrivenCpld k.val
  link := []
  txn := Txn.fresh
  inbox := []
  draws := 0

/-- The machine right after reset (R280). -/
def State.reset : State := State.resetWith Config.unit

end Sys2Proof.Machine
end

