-- ==== Sys2Proof/Machine/Operands.lean ====
section
/-! DEFINITION. The field codes of 30_encoding.md R70 to R74 and the codes of the output record's enumerations. -/

namespace Sys2Proof.Machine

open Sys2Proof

/-- `ctCode` (R70). -/
def ctCode (c : Cfg) (t : CmdType) : BitVec 2 :=
  match t with
  | .write => c.ctWrite
  | .read => c.ctRead
  | .cpldRevisionQuery => c.ctCpld

/-- `thrCode` (R71). -/
def thrCode (t : Threshold) : BitVec 2 :=
  match t with
  | .v166 => 0b00
  | .v33 => 0b01
  | .v84 => 0b10
  | .v17 => 0b11

/-- `dwCode` (R72): 1 - `DW_WET` for Dry is its complement. -/
def dwCode (c : Cfg) (d : DryWet) : BitVec 1 :=
  match d with
  | .wet => c.dwWet
  | .dry => ~~~c.dwWet

/-- `syncCode` (R73). -/
def syncCode (c : Cfg) (m : SyncMode) : BitVec 1 :=
  match m with
  | .sync => c.syncSync
  | .noSync => ~~~c.syncSync

/-- The bit position of a relay (R74). -/
def relayBit (r : Relay) : Nat :=
  match r with
  | .aa => 0
  | .ab => 1
  | .ca => 2
  | .cb => 3
  | .cc => 4

/-- The RelayBank with only relay `r` on: the operand a toggle flips by (43_write_commands.md R188 to R192). -/
def relayMask (r : Relay) : BitVec 5 := 1#5 <<< relayBit r

/-- The port code of an error result (60_exceptions.md R250). -/
def errCode (e : Err) : BitVec 2 :=
  match e with
  | .ok => 0b00
  | .notFound => 0b01
  | .badIndex => 0b10
  | .badOpk => 0b11

/-- The port code of a meta-command (45_meta_commands.md R240). -/
def metaPortCode (m : MetaCode) : BitVec 2 :=
  match m with
  | .none => 0b00
  | .help => 0b01
  | .exit => 0b10
  | .debug => 0b11

/-- `MID`, hard-wired to `MODULE_ID` (10_state.md R22, R32): the one place that reads it. -/
def State.mid (s : State) : BitVec 2 := s.cfg.moduleId

/-- The `st` observation port (10_state.md R36). -/
def State.st (s : State) : RegFile :=
  { ct := s.ct, mid := s.mid, thr := s.thr, dw := s.dw, sync := s.sync, sh := s.sh, rly := s.rly }

end Sys2Proof.Machine
end

