-- ==== Sys2Proof/Machine/Flags.lean ====
section
/-! DEFINITION. The fields of the status/error flags word `status_in[1]` (30_encoding.md R83; 40_frame_codec.md R122 to R125). The block has no
flags of its own (10_state.md R35). -/

namespace Sys2Proof.Machine

open Sys2Proof

/-- An error flag at its configured position, 1 = asserted (R122). -/
def flagAt (w1 : Word16) (p : Fin 16) : Bool := w1[p]

/-- Threshold readback, a priority decode of bits 11:10, the two-bit mask first (R123). -/
def thrReadback (w1 : Word16) : Threshold :=
  if w1.extractLsb' 10 2 = 0b11#2 then .v17
  else if w1[11] then .v84
  else if w1[10] then .v33
  else .v166

/-- Dry/wet readback, bit 9 (R124). -/
def dwReadback (c : Cfg) (w1 : Word16) : DryWet := if w1.extractLsb' 9 1 = c.dwWet then .wet else .dry

/-- Sync readback, bit 8 (R125). -/
def syncReadback (c : Cfg) (w1 : Word16) : SyncMode := if w1.extractLsb' 8 1 = c.syncSync then .sync else .noSync

end Sys2Proof.Machine
end

