-- ==== Sys2Proof/Machine/FrameCodec.lean ====
section
/-! DEFINITION. The FrameCodec: the encoder (40_frame_codec.md R110 to R118), the decoder (R120 to R129) and the integrity predicate (R130).
Both are pure functions; neither can fail (R116, R129). -/

namespace Sys2Proof.Machine

open Sys2Proof

/-- The header word (R111). -/
def headerWord (c : Cfg) : Word16 := c.header

/-- The control word (R112). -/
def controlWord (c : Cfg) (r : RegFile) : Word16 :=
  ((ctCode c r.ct).setWidth 16 <<< 14) ||| (r.mid.setWidth 16 <<< 12) ||| ((thrCode r.thr).setWidth 16 <<< 10) |||
    ((dwCode c r.dw).setWidth 16 <<< 9) ||| ((syncCode c r.sync).setWidth 16 <<< 8) ||| r.sh.setWidth 16

/-- The relay word (R113). -/
def relayWord (c : Cfg) (r : RegFile) : Word16 := (c.relayHi.setWidth 16 <<< 8) ||| r.rly.setWidth 16

/-- The inverse word of a relay word (R114). -/
def inverseWord (relay : Word16) : Word16 := relay ^^^ 0xFFFF

/-- The footer word (R115). -/
def footerWord (c : Cfg) : Word16 := c.footer

/-- `Encode` (R110). -/
def encodeFrame (c : Cfg) (r : RegFile) : Frame :=
  { header := headerWord c, control := controlWord c r, relay := relayWord c r, inverse := inverseWord (relayWord c r),
    footer := footerWord c }

/-- The words of a frame in the order of 30_encoding.md R75. -/
def frameWords (f : Frame) : List Word16 := [f.header, f.control, f.relay, f.inverse, f.footer]

/-- `IntegrityOK` (R130): the test the host applies to an echo (60_exceptions.md R254); the block never evaluates it. -/
def integrityOk (relay inv : Word16) : Bool := inv == relay ^^^ 0xFFFF

/-- `DecodedStatus` (R120). -/
structure DecodedStatus where
  general : Word16
  frameErr : Bool
  cmdErr : Bool
  relayRail : Bool
  coilErr : Bool
  thrRb : Threshold
  dwRb : DryWet
  syncRb : SyncMode
  relaysRb : BitVec 5
  inputs : BitVec 7
  cpldMd : Word16
  cpldYr : Word16
deriving DecidableEq, Repr

/-- `Decode` (R120 to R128). Bits and words it does not name are ignored (R86, R88). -/
def decodeStatus (c : Cfg) (w : StatusWords) (p : CpldWords) : DecodedStatus :=
  { general := w[0]
    frameErr := flagAt w[1] c.pFe
    cmdErr := flagAt w[1] c.pCe
    relayRail := flagAt w[1] c.pRr
    coilErr := flagAt w[1] c.pCoil
    thrRb := thrReadback w[1]
    dwRb := dwReadback c w[1]
    syncRb := syncReadback c w[1]
    relaysRb := w[2].extractLsb' 0 5
    inputs := w[3].extractLsb' 0 7
    cpldMd := p[0]
    cpldYr := p[1] }

/-- The `dec` port (R120): the decode of what the input ports carry, not stored (10_state.md R35). -/
def State.dec (s : State) : DecodedStatus := decodeStatus s.cfg s.statusIn s.cpldIn

end Sys2Proof.Machine
end

