-- ==== Sys2Proof/Machine/Link.lean ====
section
/-! DEFINITION. The memory link: bytes (20_memory.md R51), the slot accesses `MemWrite(a, 4, v)` and `MemRead(a, 4)` of 00_scope.md R8,
and the placement of frame, status and CPLD words (R52 to R57). Only the host and the UUT access it (R50). -/

namespace Sys2Proof.Machine

open Sys2Proof

/-- The byte something has written at an address, if anything has. -/
def Memory.read (m : Memory) (a : Nat) : Option Byte :=
  match m with
  | [] => none
  | (x, v) :: rest => if x = a then some v else Memory.read rest a

/-- Write one byte, keeping addresses strictly rising. -/
def Memory.write (m : Memory) (a : Nat) (b : Byte) : Memory :=
  match m with
  | [] => [(a, b)]
  | (x, v) :: rest =>
    if a < x then (a, b) :: (x, v) :: rest
    else if a = x then (a, b) :: rest
    else (x, v) :: Memory.write rest a b

/-- The canonical form: addresses strictly rising. An unlisted address holds no value, so no entry can equal it. -/
abbrev Memory.wf (m : Memory) : Prop := m.Pairwise fun p q => p.1 < q.1

/-- Byte `b` of a slot (R57). -/
def slotByte (o : ByteOrder) (v : Slot) (b : Nat) : Byte :=
  match o with
  | .little => v.extractLsb' (8 * b) 8
  | .big => v.extractLsb' (24 - 8 * b) 8

/-- The slot whose bytes are `b0` to `b3` in address order (R57). -/
def slotOfBytes (o : ByteOrder) (b0 b1 b2 b3 : Byte) : Slot :=
  match o with
  | .little => b3 ++ b2 ++ b1 ++ b0
  | .big => b0 ++ b1 ++ b2 ++ b3

/-- `MemWrite(a, 4, v)`: one slot (R56). -/
def Memory.writeSlot (o : ByteOrder) (m : Memory) (a : Nat) (v : Slot) : Memory :=
  Memory.write (Memory.write (Memory.write (Memory.write m a (slotByte o v 0)) (a + 1) (slotByte o v 1))
    (a + 2) (slotByte o v 2)) (a + 3) (slotByte o v 3)

/-- The byte a host read sees at an address at draw `n`: what was written there, or else whatever the UUT answers (R62; 60_exceptions.md R270). -/
def linkByte (m : Memory) (n a : Nat) : Byte := (Memory.read m a).getD (Config.freeLinkByte n a)

/-- `MemRead(a, 4)`: one slot (R56). -/
def readSlot (o : ByteOrder) (m : Memory) (n a : Nat) : Slot :=
  slotOfBytes o (linkByte m n a) (linkByte m n (a + 1)) (linkByte m n (a + 2)) (linkByte m n (a + 3))

/-- The address of command slot `k` (R52). -/
def cmdSlotAddr (c : Cfg) (k : Nat) : Nat := c.cmdBase + Config.slotBytes * k

/-- The address of status slot `k` (R53). -/
def statusSlotAddr (c : Cfg) (k : Nat) : Nat := c.statusBase + Config.slotBytes * k

/-- The address of CPLD slot `k` (R54): offsets 8 and 12. -/
def cpldSlotAddr (c : Cfg) (k : Nat) : Nat := c.cpldBase + 8 + Config.slotBytes * k

/-- The slot a frame word is written as (R52): bits 31:16 are 0. -/
def slotOfWord (w : Word16) : Slot := w.setWidth 32

/-- The word of a slot read (R53): bits 31:16 are ignored. -/
def wordOfSlot (v : Slot) : Word16 := v.extractLsb' 0 16

/-- A base that the alignment rule admits (R55). -/
def baseAligned (base : Nat) : Bool := base % Config.slotBytes == 0

end Sys2Proof.Machine
end

