-- ==== Sys2Proof/Machine/Contract.lean ====
section
/-! DEFINITION. The host's moves on the link, in the order of 20_memory.md R61 (60_exceptions.md R262 to R265, 70_reset_and_hazards.md R285
to R290). A move out of its place is stuck (93_implementation_defined.md I16). No move touches the register file (R59, R281, R285). -/

namespace Sys2Proof.Machine

open Sys2Proof

/-- The host has a frame to act on and has not given the transaction up. -/
def frameInHand (s : State) : Bool := s.out.frame.isSome && !s.txn.abandoned

/-- All five words of the present frame are written (R262). -/
def frameSent (s : State) : Bool := frameInHand s && s.txn.written == Config.cmdWords

/-- Every status slot is read, and both CPLD slots where they are requested (R61 steps 4 and 5). -/
def readsDone (s : State) : Bool :=
  s.txn.statusRead.length == Config.statusWords && (s.txn.cpldRead.length == Config.cpldWords || !s.out.readCpld)

/-- The host has done its duties of the present transaction (R61, R262, R264): the frame is written, and the words read are presented, unless
no read is requested and none was begun. -/
def dutiesDone (s : State) : Bool :=
  frameSent s && (s.txn.presented || (s.txn.statusRead.isEmpty && !s.out.pendingRead && !s.out.readCpld))

/-- A command may be presented (R265, R290): no frame is present, or the transaction was given up, or every duty is done. -/
def commandReady (s : State) : Bool := s.out.frame.isNone || s.txn.abandoned || dutiesDone s

/-- The link reset may be pulsed (R263, R286): once, on request, before the first frame word. -/
def mayPulse (s : State) : Bool := frameInHand s && s.out.resetReq && !s.txn.pulsed && s.txn.written == 0

/-- Frame word `k` may be written (R61, R286, R288): in order, after a requested pulse. -/
def mayWrite (s : State) (k : Nat) : Bool :=
  frameInHand s && k < Config.cmdWords && k == s.txn.written && (s.txn.pulsed || !s.out.resetReq)

/-- Status slot `k` may be read (R61, R264, R287): in order, once, `DELAY_D` after the last frame word. -/
def mayReadStatus (s : State) (k : Nat) : Bool :=
  frameSent s && k < Config.statusWords && k == s.txn.statusRead.length && decide (s.cfg.delayD ≤ s.txn.waited)

/-- CPLD slot `k` may be read (R54, R61, R264): on request, in order, once, after the status. -/
def mayReadCpld (s : State) (k : Nat) : Bool :=
  frameSent s && s.out.readCpld && s.txn.statusRead.length == Config.statusWords && k < Config.cpldWords &&
  k == s.txn.cpldRead.length

/-- The words read may be presented (R61 step 6): all at once, after the last read, once. -/
def mayPresent (s : State) : Bool := frameSent s && readsDone s && !s.txn.presented

/-- Word `k` of the present frame; 0 where there is none (`mayWrite` rules that out). -/
def frameWord (s : State) (k : Nat) : Word16 :=
  match s.out.frame with
  | some f => (frameWords f).getD k 0
  | none => 0

/-- Pulse the link reset (R263). It resets the link or the UUT, not the block (R281); what the UUT does on it is the UUT's move. -/
def pulseLink (s : State) : Outcome :=
  if mayPulse s then .next { s with txn := { s.txn with pulsed := true } } else .fault .pulseOutOfPlace

/-- Write frame word `k` (R52). That the write changes no byte of the link beside its slot is the model's choice (DESIGN CHOICE, unsafe,
notes/assumptions/28.md). -/
def writeFrameWord (s : State) (k : Nat) : Outcome :=
  if !mayWrite s k then .fault .writeOutOfPlace
  else if !baseAligned s.cfg.cmdBase then .refused .unalignedBase
  else .next { s with
    link := Memory.writeSlot s.cfg.byteOrder s.link (cmdSlotAddr s.cfg k) (slotOfWord (frameWord s k))
    txn := { s.txn with written := k + 1 } }

/-- Let `t` time units pass (R264); they count towards `DELAY_D` once the frame is written. -/
def waitTime (s : State) (t : Nat) : Outcome :=
  .next (if frameSent s then { s with txn := { s.txn with waited := s.txn.waited + t } } else s)

/-- Read status slot `k` (R53): the host keeps the slot's low half, and the ports stay as they are. That the read itself changes
no byte of the link is the model's choice (DESIGN CHOICE, unsafe, notes/assumptions/28.md: R59 leaves a side effect in the UUT open). -/
def readStatusSlot (s : State) (k : Nat) : Outcome :=
  if !mayReadStatus s k then .fault .statusReadOutOfPlace
  else if !baseAligned s.cfg.statusBase then .refused .unalignedBase
  else .next { s with
    draws := s.draws + 1
    txn := { s.txn with
      statusRead := s.txn.statusRead ++ [wordOfSlot (readSlot s.cfg.byteOrder s.link s.draws (statusSlotAddr s.cfg k))] } }

/-- Read CPLD slot `k` (R54): the host keeps the slot's low half, and the ports stay as they are. That the read itself changes
no byte of the link is the model's choice (DESIGN CHOICE, unsafe, notes/assumptions/28.md: R59 leaves a side effect in the UUT open). -/
def readCpldSlot (s : State) (k : Nat) : Outcome :=
  if !mayReadCpld s k then .fault .cpldReadOutOfPlace
  else if !baseAligned s.cfg.cpldBase then .refused .unalignedBase
  else .next { s with
    draws := s.draws + 1
    txn := { s.txn with
      cpldRead := s.txn.cpldRead ++ [wordOfSlot (readSlot s.cfg.byteOrder s.link s.draws (cpldSlotAddr s.cfg k))] } }

/-- The first `n` words of a list as a port carries them; 0 past its end (`readsDone` rules that out). -/
def portWords (n : Nat) (words : List Word16) : Vector Word16 n := Vector.ofFn fun k => words.getD k.val 0

/-- Present the words read to the decoder, all in one move (R61 step 6): the seven status words, and the CPLD pair where it was requested;
where it was not, `cpld_in` carries whatever the host presents on it (40_frame_codec.md R128). -/
def presentWords (unasked : CpldWords) (s : State) : Outcome :=
  if mayPresent s then .next { s with
    statusIn := portWords 7 s.txn.statusRead
    cpldIn := if s.out.readCpld then portWords 2 s.txn.cpldRead else unasked
    txn := { s.txn with presented := true } }
  else .fault .presentOutOfPlace

/-- A link access failed (42_dispatch.md R167): the host reports it and goes on; nothing is rolled back. That the failed access changes no byte of
the slot it addressed is the model's choice (DESIGN CHOICE, unsafe, notes/assumptions/27.md). -/
def giveUp (s : State) : Outcome :=
  if s.out.frame.isSome then .next { s with txn := { s.txn with abandoned := true } } else .fault .noFrameToSend

/-- Send again the frame the host already has (R285): the words are written from the first, and the delay, the reads and the presenting start
over, so that a slot already read is read again; a pulse already made is not repeated. That it all starts over but the pulse is the
model's choice (DESIGN CHOICE, notes/assumptions/12.md: R285 speaks of the frame only, R59 of no read again). -/
def resendFrame (s : State) : Outcome :=
  if s.out.frame.isSome then .next { s with txn := { Txn.fresh with pulsed := s.txn.pulsed } } else .fault .noFrameToSend

/-- One move of the host. -/
def hostStep (act : HostAct) (s : State) : Outcome :=
  match act with
  | .pulse => pulseLink s
  | .writeWord k => writeFrameWord s k
  | .wait t => waitTime s t
  | .readStatus k => readStatusSlot s k
  | .readCpld k => readCpldSlot s k
  | .present unasked => presentWords unasked s
  | .linkFailed => giveUp s
  | .resend => resendFrame s

/-- One move of the UUT: a whole slot (R58), any slot, any value (60_exceptions.md R270). -/
def uutStep (slot : Nat) (v : Slot) (s : State) : Outcome :=
  .next { s with link := Memory.writeSlot s.cfg.byteOrder s.link (Config.slotBytes * slot) v }

end Sys2Proof.Machine
end

