-- ==== Sys2Proof/Machine/Ops.lean ====
section
/-! DEFINITION. The operations every instruction shares (42_dispatch.md R160 to R169): the counter update, the end of a dispatching
transaction, the end of a meta-command, and the one way an error is raised. The block has no trap (60_exceptions.md R250, R258, R259):
raising an error is the whole of taking an exception, and there is no return from one. -/

namespace Sys2Proof.Machine

open Sys2Proof

/-- `(SH + 1) mod 128` (R164), exact and then narrowed. -/
def nextCount (sh : BitVec 7) : BitVec 7 := BitVec.ofNat 7 ((sh.toNat + 1) % Config.shMod)

/-- `CounterUpdate` (R164): it reads `CT` and `SYNC` after the mutation of the same transaction. -/
def counterUpdate (s : State) : State :=
  match s.ct, s.sync with
  | .read, _ => s
  | .write, .sync => { s with sh := 0 }
  | .cpldRevisionQuery, .sync => { s with sh := 0 }
  | .write, .noSync => { s with sh := nextCount s.sh }
  | .cpldRevisionQuery, .noSync => { s with sh := nextCount s.sh }

/-- The host requests `q = (pending_read, read_cpld, reset_req)` of R163. -/
structure Requests where
  pendingRead : Bool
  readCpld : Bool
  resetReq : Bool
deriving DecidableEq, Repr

/-- The row of R166 for the write class. -/
def noRequests : Requests := { pendingRead := false, readCpld := false, resetReq := false }
/-- The row of R166 for QTHR and QRD. -/
def statusRequest : Requests := { pendingRead := true, readCpld := false, resetReq := false }
/-- The row of R166 for QFULL. -/
def fullRequest : Requests := { pendingRead := true, readCpld := true, resetReq := false }
/-- The row of R166 for QCPLD. -/
def cpldRequest : Requests := { pendingRead := true, readCpld := true, resetReq := true }

/-- The output record of a step starts idle, with the index and code the fetch has set (R160, R162); a new transaction begins for the host. -/
def setOut (s : State) (o : Out) : State := { s with out := o, txn := Txn.fresh }

/-- The end of a dispatching transaction of kind `i` (R162): `s1` is the mutated state, `q` the host requests. The counter is updated, the
frame is the encoding of the updated state (R165), and that state is the new register file (R167). -/
def dispatch (i : Instr) (q : Requests) (s1 : State) : Outcome :=
  let s2 := counterUpdate s1
  .next (setOut s2
    { Out.idle with
      frame := some (encodeFrame s2.cfg s2.st)
      pendingRead := q.pendingRead
      readCpld := q.readCpld
      resetReq := q.resetReq
      index := s1.out.index
      opk := some (encodeOpk i) })

/-- The end of a meta-command (45_meta_commands.md R240): index, code and meta code, and nothing else. -/
def metaStep (i : Instr) (m : MetaCode) (s : State) : Outcome :=
  .next (setOut s { Out.idle with metaCode := m, index := s.out.index, opk := some (encodeOpk i) })

/-- `raise e` (00_scope.md R8, 60_exceptions.md R250): the error code, the fields of the record set before it, no register written. -/
def raise (e : Err) (index : Option Nat) (opk : Option Opk) (s : State) : Outcome :=
  .next (setOut s { Out.idle with err := e, index := index, opk := opk })

/-- A reserved code reached (R244, R253): BADOPK, with the index and the code recorded. -/
def raiseBadOpk (i : Instr) (s : State) : Outcome := raise .badOpk s.out.index (some (encodeOpk i)) s

/-- A mutation of the write class begins with `CT <- Write` (R91, R163). -/
def asWrite (s : State) : State := { s with ct := .write }

/-- `THR <- v` of the write class (43_write_commands.md R180 to R183). -/
def writeThreshold (v : Threshold) (s : State) : State := { asWrite s with thr := v }

/-- `DW <- d` of the write class (R184, R185). -/
def writeDryWet (d : DryWet) (s : State) : State := { asWrite s with dw := d }

/-- `SYNC <- m` of the write class (R186, R187). -/
def writeSync (m : SyncMode) (s : State) : State := { asWrite s with sync := m }

/-- `RLY <- v` of the write class (R193, R194). -/
def writeRelays (v : BitVec 5) (s : State) : State := { asWrite s with rly := v }

/-- One relay flipped (R188 to R192). -/
def toggleRelay (r : Relay) (s : State) : State := writeRelays (s.rly ^^^ relayMask r) s

/-- A mutation of the query class writes `CT` only (R91, R163). -/
def asQuery (t : CmdType) (s : State) : State := { s with ct := t }

end Sys2Proof.Machine
end

