-- ==== Sys2Proof/Machine/MetaCommand.lean ====
section
/-! DEFINITION. The meta-commands (45_meta_commands.md R240 to R243). -/

namespace Sys2Proof.Machine

open Sys2Proof

/-- MHELP (R241). -/
def execMHelp (s : State) : Outcome := metaStep .mHelp .help s

/-- MEXIT (R242): the block does not stop; the host ends the session (60_exceptions.md R266). -/
def execMExit (s : State) : Outcome := metaStep .mExit .exit s

/-- MDEBUG (R243). -/
def execMDebug (s : State) : Outcome := metaStep .mDebug .debug s

end Sys2Proof.Machine
end

