-- ==== Sys2Proof/Machine/Query.lean ====
section
/-! DEFINITION. The query operations (44_query_commands.md R220 to R223). -/

namespace Sys2Proof.Machine

open Sys2Proof

/-- QTHR (R220): threshold query. -/
def execQThr (s : State) : Outcome := dispatch .qThr statusRequest (asQuery .read s)

/-- QRD (R221): any other Read-type status query. -/
def execQRd (s : State) : Outcome := dispatch .qRd statusRequest (asQuery .read s)

/-- QFULL (R222): full-status query. -/
def execQFull (s : State) : Outcome := dispatch .qFull fullRequest (asQuery .read s)

/-- QCPLD (R223): CPLD-revision query; the counter advances (90_conflicts.md C3). -/
def execQCpld (s : State) : Outcome := dispatch .qCpld cpldRequest (asQuery .cpldRevisionQuery s)

end Sys2Proof.Machine
end

