-- ==== Sys2Proof/Machine/Reserved.lean ====
section
/-! DEFINITION. The reserved codes and the sentinel (45_meta_commands.md R244): their effect is an error result. -/

namespace Sys2Proof.Machine

open Sys2Proof

/-- Code 0x00, reserved (R244): BADOPK. -/
def execReserved00 (s : State) : Outcome := raiseBadOpk .reserved00 s

/-- Code 0x17, reserved (R244): BADOPK. -/
def execReserved17 (s : State) : Outcome := raiseBadOpk .reserved17 s

/-- Code 0x18, reserved (R244): BADOPK. -/
def execReserved18 (s : State) : Outcome := raiseBadOpk .reserved18 s

/-- Code 0x19, reserved (R244): BADOPK. -/
def execReserved19 (s : State) : Outcome := raiseBadOpk .reserved19 s

/-- Code 0x1A, reserved (R244): BADOPK. -/
def execReserved1A (s : State) : Outcome := raiseBadOpk .reserved1A s

/-- Code 0x1B, reserved (R244): BADOPK. -/
def execReserved1B (s : State) : Outcome := raiseBadOpk .reserved1B s

/-- Code 0x1C, reserved (R244): BADOPK. -/
def execReserved1C (s : State) : Outcome := raiseBadOpk .reserved1C s

/-- Code 0x1D, reserved (R244): BADOPK. -/
def execReserved1D (s : State) : Outcome := raiseBadOpk .reserved1D s

/-- Code 0x1E, reserved (R244): BADOPK. -/
def execReserved1E (s : State) : Outcome := raiseBadOpk .reserved1E s

/-- END (R244, R252): BADINDEX, the index and the code not recorded. -/
def execEndMark (s : State) : Outcome := raise .badIndex none none s

end Sys2Proof.Machine
end

