-- ==== Sys2Proof/Machine/Write.lean ====
section
/-! DEFINITION. The write operations (43_write_commands.md R180 to R194). -/

namespace Sys2Proof.Machine

open Sys2Proof

/-- THR17 (R180): threshold 17V. -/
def execThr17 (s : State) : Outcome := dispatch .thr17 noRequests (writeThreshold .v17 s)

/-- THR33 (R181): threshold 33V. -/
def execThr33 (s : State) : Outcome := dispatch .thr33 noRequests (writeThreshold .v33 s)

/-- THR84 (R182): threshold 84V. -/
def execThr84 (s : State) : Outcome := dispatch .thr84 noRequests (writeThreshold .v84 s)

/-- THR166 (R183): threshold 166V. -/
def execThr166 (s : State) : Outcome := dispatch .thr166 noRequests (writeThreshold .v166 s)

/-- SETDRY (R184): Dry. -/
def execSetDry (s : State) : Outcome := dispatch .setDry noRequests (writeDryWet .dry s)

/-- SETWET (R185): Wet. -/
def execSetWet (s : State) : Outcome := dispatch .setWet noRequests (writeDryWet .wet s)

/-- SYNCON (R186): Sync set; the counter of the same transaction goes to 0. -/
def execSyncOn (s : State) : Outcome := dispatch .syncOn noRequests (writeSync .sync s)

/-- SYNCOFF (R187): Sync unset; the counter of the same transaction advances. -/
def execSyncOff (s : State) : Outcome := dispatch .syncOff noRequests (writeSync .noSync s)

/-- TGLAA (R188): relay AA flipped. -/
def execTglAA (s : State) : Outcome := dispatch .tglAA noRequests (toggleRelay .aa s)

/-- TGLAB (R189): relay AB flipped. -/
def execTglAB (s : State) : Outcome := dispatch .tglAB noRequests (toggleRelay .ab s)

/-- TGLCA (R190): relay CA flipped. -/
def execTglCA (s : State) : Outcome := dispatch .tglCA noRequests (toggleRelay .ca s)

/-- TGLCB (R191): relay CB flipped. -/
def execTglCB (s : State) : Outcome := dispatch .tglCB noRequests (toggleRelay .cb s)

/-- TGLCC (R192): relay CC flipped. -/
def execTglCC (s : State) : Outcome := dispatch .tglCC noRequests (toggleRelay .cc s)

/-- RLYON (R193): all relays on. -/
def execRlyOn (s : State) : Outcome := dispatch .rlyOn noRequests (writeRelays 0b11111 s)

/-- RLYOFF (R194): all relays off. -/
def execRlyOff (s : State) : Outcome := dispatch .rlyOff noRequests (writeRelays 0b00000 s)

end Sys2Proof.Machine
end

