-- ==== Sys2Proof/Machine/Dispatch.lean ====
section
/-! DEFINITION. The dispatch of an operation kind to its meaning: one arm for each constructor of Instr (30_encoding.md R90). -/

namespace Sys2Proof.Machine

open Sys2Proof

def exec (i : Instr) (s : State) : Host.Outcome State Fault Refusal :=
  match i with
  | .reserved00 => Sys2Proof.Machine.execReserved00 s
  | .thr17 => Sys2Proof.Machine.execThr17 s
  | .thr33 => Sys2Proof.Machine.execThr33 s
  | .thr84 => Sys2Proof.Machine.execThr84 s
  | .thr166 => Sys2Proof.Machine.execThr166 s
  | .setDry => Sys2Proof.Machine.execSetDry s
  | .setWet => Sys2Proof.Machine.execSetWet s
  | .syncOn => Sys2Proof.Machine.execSyncOn s
  | .syncOff => Sys2Proof.Machine.execSyncOff s
  | .tglAA => Sys2Proof.Machine.execTglAA s
  | .tglAB => Sys2Proof.Machine.execTglAB s
  | .tglCA => Sys2Proof.Machine.execTglCA s
  | .tglCB => Sys2Proof.Machine.execTglCB s
  | .tglCC => Sys2Proof.Machine.execTglCC s
  | .rlyOn => Sys2Proof.Machine.execRlyOn s
  | .rlyOff => Sys2Proof.Machine.execRlyOff s
  | .qThr => Sys2Proof.Machine.execQThr s
  | .qRd => Sys2Proof.Machine.execQRd s
  | .qFull => Sys2Proof.Machine.execQFull s
  | .qCpld => Sys2Proof.Machine.execQCpld s
  | .mHelp => Sys2Proof.Machine.execMHelp s
  | .mExit => Sys2Proof.Machine.execMExit s
  | .mDebug => Sys2Proof.Machine.execMDebug s
  | .reserved17 => Sys2Proof.Machine.execReserved17 s
  | .reserved18 => Sys2Proof.Machine.execReserved18 s
  | .reserved19 => Sys2Proof.Machine.execReserved19 s
  | .reserved1A => Sys2Proof.Machine.execReserved1A s
  | .reserved1B => Sys2Proof.Machine.execReserved1B s
  | .reserved1C => Sys2Proof.Machine.execReserved1C s
  | .reserved1D => Sys2Proof.Machine.execReserved1D s
  | .reserved1E => Sys2Proof.Machine.execReserved1E s
  | .endMark => Sys2Proof.Machine.execEndMark s

end Sys2Proof.Machine
end

