-- ==== Sys2Proof/Machine/Table.lean ====
section
/-! DEFINITION. The CommandTable: lookup of a line (41_command_table.md R145 to R149) and of an index (R149, 42_dispatch.md R162). -/

namespace Sys2Proof.Machine

open Sys2Proof

/-- The scan of R145 over the entries from index `i` on: it stops at the sentinel, and answers the first entry whose name equals the line
byte for byte (R146). -/
def lookupFrom (i : Nat) (rom : List Entry) (line : List Byte) : Option Nat :=
  match rom with
  | [] => none
  | e :: rest =>
    if e.opk = Opk.endCode then none
    else if e.name = line then some i
    else lookupFrom (i + 1) rest line

/-- `Lookup` (R145): the index found, 0-based (R149), or none for NotFound. -/
def lookup (rom : List Entry) (line : List Byte) : Option Nat := lookupFrom 0 rom line

/-- The code of the command entry at an index (R162): none where the index is at or past the table's length or the entry is the sentinel,
the two cases of BADINDEX (60_exceptions.md R252). -/
def entryOpk (rom : List Entry) (i : Nat) : Option Opk :=
  match rom[i]? with
  | none => none
  | some e => if e.opk = Opk.endCode then none else some e.opk

/-- What the external reader delivers of a console line (R143): at most `LINE_MAX` bytes. -/
def readerLine (lineMax : Nat) (text : List Byte) : List Byte := text.take lineMax

end Sys2Proof.Machine
end

