-- ==== Sys2Proof/Machine/Session.lean ====
section
/-! DEFINITION. One event of the machine: the two entry points `Step` and `Apply` of the block (42_dispatch.md R161, R162), its reset
(70_reset_and_hazards.md R280), the moves of the host and of the UUT, and construction (R283). -/

namespace Sys2Proof.Machine

open Sys2Proof

/-- The record as R162 sets it before the operation kind is applied: idle but for the index and the code. -/
def fetched (i : Nat) (k : Opk) (s : State) : State := { s with out := { Out.idle with index := some i, opk := some k } }

/-- `Apply(st, i)` (R162). An index that is no command entry raises BADINDEX (R252); otherwise the entry's code is decoded and executed, a
reserved one to BADOPK (R253). -/
def applyIndex (i : Nat) (s : State) : Outcome :=
  match entryOpk s.cfg.cmdRom i with
  | none => raise .badIndex none none s
  | some k => exec (decodeOpk k) (fetched i k s)

/-- `Step(st, line)` (R161): NOTFOUND (R251) or `Apply` of the index found. -/
def applyLine (line : List Byte) (s : State) : Outcome :=
  match lookup s.cfg.cmdRom line with
  | none => raise .notFound none none s
  | some i => applyIndex i s

/-- A command waits for the host to finish the previous transaction (60_exceptions.md R265, R290). -/
def whenReady (s : State) (command : Outcome) : Outcome :=
  if commandReady s then command else .fault .commandBeforeDone

/-- `rst` (R280): the registers of S0 and an idle output record, in one step. Configuration, table (R282), link, ports and the moves to come
are not the block's registers and stay. -/
def rst (s : State) : State :=
  { s with
    ct := .read
    thr := .v166
    dw := .wet
    sync := .noSync
    sh := 0
    rly := 0b00000
    out := Out.idle
    txn := Txn.fresh }

/-- What one event does. -/
def eventStep (e : Event) (s : State) : Outcome :=
  match e with
  | .rst => .next (rst s)
  | .line text => whenReady s (applyLine text s)
  | .console text => whenReady s (applyLine (readerLine s.cfg.lineMax text) s)
  | .index i => whenReady s (applyIndex i s)
  | .host act => hostStep act s
  | .uut slot v => uutStep slot v s

/-- Construction and boot (R283 steps 2 and 3): a configuration that is not well formed is refused (R5, R55, R144); otherwise `rst`. -/
def boot (c : Cfg) : Outcome :=
  if c.wf then .next (State.resetWith c) else .refused .badConfig

/-- The table that holds one entry with the given code before the sentinel. -/
def oneEntryRom (k : Opk) : List Entry := [⟨[0x78], k⟩, ⟨[], Opk.endCode⟩]

/-- The state in which the next step applies code `k` as the table's entry 0 (host interface; notes/assumptions/17.md). -/
def withOpk (s : State) (k : Opk) : State :=
  { s with
    cfg := { s.cfg with cmdRom := oneEntryRom k }
    out := Out.idle
    txn := Txn.fresh
    inbox := .index 0 :: s.inbox }

end Sys2Proof.Machine
end

