-- ==== Sys2Proof/Machine/Step.lean ====
section
/-! DEFINITION. One step of the machine: the first event of the inbox, or nothing where there is none (60_exceptions.md R269). -/

namespace Sys2Proof.Machine

open Sys2Proof

/-- One step: the next event is taken off the inbox and done (00_scope.md R4: one input event causes one atomic step). -/
def step (s : State) : Host.Outcome State Fault Refusal :=
  match s.inbox with
  | [] => .next s
  | e :: rest => eventStep e { s with inbox := rest }

/-- `s` with the instruction of an opcode-table word placed where the next step fetches it: as the only command entry of the table, with
its index next on `cmd_index` (notes/assumptions/17.md). A number that is no OPK5 code leaves `s` as it is. -/
def State.withFetchWord (s : State) (nbits w : Nat) : State :=
  match decodeTableWord nbits w with
  | some _ => withOpk s (BitVec.ofNat 5 w)
  | none => s

end Sys2Proof.Machine
end

