-- ==== Sys2Proof/Safety.lean ====
section
/-! DEFINITION. The terms claims are stated in: what a transaction leaves, the invariant of a session, the host's schedules, and the end of a
run. -/

namespace Sys2Proof.Safety

open Sys2Proof Sys2Proof.Machine

/-- The counter a non-Read transaction leaves under sync mode `m` (42_dispatch.md R164). -/
def countedFrom (m : SyncMode) (sh : BitVec 7) : Nat := if m = .sync then 0 else (sh.toNat + 1) % 128

/-- The output record of a dispatching transaction of kind `i` that left state `t` (R162, R165, R166): the frame is the encoding of `t`. -/
def DispatchRecord (i : Instr) (pendingRead readCpld resetReq : Bool) (index : Option Nat) (t : State) : Prop :=
  t.out = { err := .ok, metaCode := .none, frame := some (encodeFrame t.cfg t.st), pendingRead := pendingRead,
            readCpld := readCpld, resetReq := resetReq, index := index, opk := some (encodeOpk i) }

/-- `exec i s` answers a next state: the mutated state `m` with the counter of a non-Read transaction, the record of a write, and a new
transaction for the host. Everything else is as in `m`. -/
def WriteCompletes (i : Instr) (s m : State) : Prop :=
  ∃ t, exec i s = .next t ∧ t = { m with sh := t.sh, out := t.out, txn := Txn.fresh } ∧
    t.sh.toNat = countedFrom m.sync s.sh ∧ DispatchRecord i false false false s.out.index t

/-- The same for a Read-class query: only `CT` is written, and the counter stays (R164, R220 to R222). -/
def ReadQueryCompletes (i : Instr) (readCpld : Bool) (s : State) : Prop :=
  ∃ t, exec i s = .next t ∧ t = { s with ct := .read, out := t.out, txn := Txn.fresh } ∧
    DispatchRecord i true readCpld false s.out.index t

/-- `exec i s` answers a next state in which the record is all that is new: error `e`, meta code `m`, index and code as given, no frame and no
request. -/
def RecordCompletes (i : Instr) (e : Err) (m : MetaCode) (index : Option Nat) (opk : Option Opk) (s : State) : Prop :=
  exec i s = .next { s with
    out := { err := e, metaCode := m, frame := none, pendingRead := false, readCpld := false, resetReq := false,
             index := index, opk := opk }
    txn := Txn.fresh }

/-- The first move to come is a command for the block (42_dispatch.md R161). -/
def commandNext (s : State) : Bool :=
  match s.inbox with
  | .line _ :: _ => true
  | .console _ :: _ => true
  | .index _ :: _ => true
  | _ => false

/-- The first move to come is none, or one of the host's on the link, or the UUT's. -/
def outsideNext (s : State) : Bool :=
  match s.inbox with
  | [] => true
  | .host _ :: _ => true
  | .uut _ _ :: _ => true
  | _ => false

/-- The run has ended: the host acts on `meta = EXIT` (60_exceptions.md R266). -/
def sessionEnded (s : State) : Prop := s.out.metaCode = .exit

/-- The CPLD fields of `dec` are meaningful (40_frame_codec.md R128). -/
def cpldMeaningful (s : State) : Prop := s.out.readCpld = true ∧ s.txn.presented = true

/-- What holds between any two moves of a session. -/
structure SessionInv (s : State) : Prop where
  /-- The link is in its canonical form. -/
  linkWf : Memory.wf s.link
  /-- "held at 0 whenever `sync = Sync`" (10_state.md R31). -/
  syncHoldsCounter : s.sync = .sync → s.sh = 0
  /-- A frame in hand is the encoding of the register file (42_dispatch.md R165, R167). -/
  frameIsCurrent : ∀ f, s.out.frame = some f → f = encodeFrame s.cfg s.st
  /-- Without a frame nothing is requested (R166). -/
  requestsHaveFrame : s.out.frame = none → s.out.pendingRead = false ∧ s.out.readCpld = false ∧ s.out.resetReq = false
  /-- An error or a meta-command produces no frame (R169). -/
  recordIsOneKind : s.out.err ≠ .ok ∨ s.out.metaCode ≠ .none → s.out.frame = none
  /-- Without a frame the host has nothing to do on the link. -/
  progressHasFrame : s.out.frame = none → s.txn = Txn.fresh
  /-- The host's progress stays within the frame, the status frame and the CPLD pair (20_memory.md R52 to R54). -/
  progressBounded : s.txn.written ≤ 5 ∧ s.txn.statusRead.length ≤ 7 ∧ s.txn.cpldRead.length ≤ 2
  /-- A requested pulse precedes the first frame word (70_reset_and_hazards.md R286). -/
  pulseFirst : s.out.resetReq = true → 0 < s.txn.written → s.txn.pulsed = true
  /-- Status is read only after the whole frame and the bounded delay (R287). -/
  statusAfterDelay : s.txn.statusRead ≠ [] → s.txn.written = 5 ∧ s.cfg.delayD ≤ s.txn.waited
  /-- The CPLD pair is read only on request and after the status (20_memory.md R54, R61). -/
  cpldAfterStatus : s.txn.cpldRead ≠ [] → s.txn.statusRead.length = 7 ∧ s.out.readCpld = true
  /-- The words presented are all the words read, on their ports in slot order (R61 steps 4 to 6). -/
  presentedAreRead : s.txn.presented = true → s.statusIn.toList = s.txn.statusRead ∧
    (s.out.readCpld = true → s.cpldIn.toList = s.txn.cpldRead)

/-- The host's moves that send a frame, in the order of R61. -/
def sendSchedule (resetReq : Bool) : List Event :=
  (if resetReq then [.host .pulse] else []) ++
    [.host (.writeWord 0), .host (.writeWord 1), .host (.writeWord 2), .host (.writeWord 3), .host (.writeWord 4)]

/-- The host's moves that read the status after waiting `d`, the CPLD pair too if requested, and present what was read (and `unasked` on
`cpld_in` if not), in the order of R61. -/
def statusSchedule (d : Nat) (readCpld : Bool) (unasked : CpldWords) : List Event :=
  [.host (.wait d), .host (.readStatus 0), .host (.readStatus 1), .host (.readStatus 2), .host (.readStatus 3),
   .host (.readStatus 4), .host (.readStatus 5), .host (.readStatus 6)] ++
    (if readCpld then [.host (.readCpld 0), .host (.readCpld 1)] else []) ++ [.host (.present unasked)]

/-- The slot of the command region a UUT reads at position `k`, every byte of which has been written (20_memory.md R52). -/
def commandSlot (s : State) (k : Nat) : Option Slot :=
  let a := cmdSlotAddr s.cfg k
  match Memory.read s.link a, Memory.read s.link (a + 1), Memory.read s.link (a + 2), Memory.read s.link (a + 3) with
  | some b0, some b1, some b2, some b3 => some (slotOfBytes s.cfg.byteOrder b0 b1 b2 b3)
  | _, _, _, _ => none

/-- What the UUT sees in the command region: five slots (R58: a mixture while a frame is being written). -/
def uutView (s : State) : List (Option Slot) := (List.range 5).map (commandSlot s)

end Sys2Proof.Safety
end

