-- ==== Sys2Proof/Certificates/Slice0/Obligations.lean ====
section
/-! DEFINITION. The statements for the provers. Each docstring names the rule of spec/ it formalises. `State.txn`, `State.inbox` and
`State.draws` are the model's own fields: a clause on one of them (`commandReady`, `frameSent`, `Txn.fresh` among them) is the model's choice
(notes/assumptions/1.md, 7.md, 10.md), no rule's. -/

open Sys2Proof Sys2Proof.Machine Sys2Proof.Safety

/-! Encodings -/

/-- 30_encoding.md R90, the OPK map: written-out codes decode to the operation they stand for, one or more of each class, and the bytes beside
the format are refused by name. That a code stands in one byte, and that a byte above 0x1F and the empty sequence are no instruction, is the model's
choice (DEDUCED, notes/assumptions/19.md). -/
def Obligations.WrittenOutCodesDecode : Prop :=
  decodeOpk 0b00001 = .thr17 ∧ decodeOpk 0b00101 = .setDry ∧ decodeOpk 0b00111 = .syncOn ∧ decodeOpk 0b01101 = .tglCC ∧
  decodeOpk 0b01110 = .rlyOn ∧ decodeOpk 0b10011 = .qCpld ∧ decodeOpk 0b10101 = .mExit ∧ decodeOpk 0b00000 = .reserved00 ∧
  decodeOpk 0b11110 = .reserved1E ∧ decodeOpk 0b11111 = .endMark ∧
  decode [0b00010011, 0xFF] = .ok (.qCpld, [0xFF]) ∧ decode [0b00100000] = .error (.notOpk5 0x20) ∧ decode [] = .error .noByte

/-- R90: decoding and encoding agree in both directions, over codes and over byte sequences. The byte form, and the refusal of a byte or a table word
above 0x1F and of a word of no bits, are the model's choice (DEDUCED, notes/assumptions/19.md). -/
def Obligations.DecodeAndEncodeAgree : Prop :=
  (∀ (i : Instr) (rest : List Byte), decode (encode i ++ rest) = .ok (i, rest)) ∧
  (∀ (bytes rest : List Byte) (i : Instr), decode bytes = .ok (i, rest) → bytes = encode i ++ rest) ∧
  (∀ k : Opk, encodeOpk (decodeOpk k) = k) ∧
  (∀ (nbits w : Nat) (i : Instr), decodeTableWord nbits w = some i ↔ nbits ≠ 0 ∧ w = (encodeOpk i).toNat)

/-- R77, 40_frame_codec.md R112: the fields of the control word; bit 7 is always 0. -/
def Obligations.ControlWordFields : Prop :=
  ∀ (c : Cfg) (r : RegFile),
    (encodeFrame c r).control.extractLsb' 14 2 = ctCode c r.ct ∧
    (encodeFrame c r).control.extractLsb' 12 2 = r.mid ∧
    (encodeFrame c r).control.extractLsb' 10 2 = thrCode r.thr ∧
    (encodeFrame c r).control.extractLsb' 9 1 = dwCode c r.dw ∧
    (encodeFrame c r).control.extractLsb' 8 1 = syncCode c r.sync ∧
    (encodeFrame c r).control.extractLsb' 0 8 = r.sh.setWidth 8 ∧
    (encodeFrame c r).control.getLsbD 7 = false

/-- R76, R78 to R80, 40_frame_codec.md R111, R113 to R115: the header, relay, inverse and footer words. That bits 7:5 of the relay word are zero is
the spec's own decision (92_eei_decisions.md D8). -/
def Obligations.ConstantRelayAndInverseWords : Prop :=
  ∀ (c : Cfg) (r : RegFile),
    (encodeFrame c r).header = c.header ∧ (encodeFrame c r).footer = c.footer ∧
    (encodeFrame c r).relay.extractLsb' 8 8 = c.relayHi ∧
    (encodeFrame c r).relay.extractLsb' 5 3 = 0 ∧
    (encodeFrame c r).relay.extractLsb' 0 5 = r.rly ∧
    (encodeFrame c r).inverse = ~~~(encodeFrame c r).relay ∧
    (encodeFrame c r).inverse.extractLsb' 8 8 = ~~~c.relayHi ∧
    (encodeFrame c r).inverse.extractLsb' 5 3 = 0b111 ∧
    (encodeFrame c r).inverse.extractLsb' 0 5 = ~~~r.rly

/-- R132: the integrity predicate holds of every frame; and it is the complement relation of R130. -/
def Obligations.EveryFramePassesIntegrity : Prop :=
  (∀ (c : Cfg) (r : RegFile), integrityOk (encodeFrame c r).relay (encodeFrame c r).inverse = true) ∧
  (∀ relay inv : Word16, integrityOk relay inv = true ↔ inv = relay ^^^ 0xFFFF)

/-- R118: two register files that differ in any register give different frames, for distinct command_type codes (00_scope.md R5). -/
def Obligations.EncodeIsInjective : Prop :=
  ∀ (c : Cfg) (r r' : RegFile), Cfg.codesWf c = true → r ≠ r' → encodeFrame c r ≠ encodeFrame c r'

/-- R89: the command_type code outside the image of `ctCode` is never produced, nor is control bit 7 or a relay word bit 7 to 5. -/
def Obligations.UnusedCodesNeverSent : Prop :=
  ∀ (c : Cfg) (r : RegFile), Cfg.codesWf c = true → ∀ v : BitVec 2, (∀ t : CmdType, v ≠ ctCode c t) →
    (encodeFrame c r).control.extractLsb' 14 2 ≠ v ∧ (encodeFrame c r).control.getLsbD 7 = false ∧
    (encodeFrame c r).relay.getLsbD 7 = false ∧ (encodeFrame c r).relay.getLsbD 6 = false ∧
    (encodeFrame c r).relay.getLsbD 5 = false

/-- R70 to R74, R240, R250: the codes of command types, thresholds, dry/wet, sync, relays, meta-commands and error results. -/
def Obligations.FieldAndPortCodes : Prop :=
  (∀ c : Cfg, ctCode c .write = c.ctWrite ∧ ctCode c .read = c.ctRead ∧ ctCode c .cpldRevisionQuery = c.ctCpld ∧
    dwCode c .wet = c.dwWet ∧ (dwCode c .dry).toNat = 1 - c.dwWet.toNat ∧
    syncCode c .sync = c.syncSync ∧ (syncCode c .noSync).toNat = 1 - c.syncSync.toNat) ∧
  (thrCode .v166 = 0b00 ∧ thrCode .v33 = 0b01 ∧ thrCode .v84 = 0b10 ∧ thrCode .v17 = 0b11) ∧
  (relayBit .aa = 0 ∧ relayBit .ab = 1 ∧ relayBit .ca = 2 ∧ relayBit .cb = 3 ∧ relayBit .cc = 4) ∧
  (metaPortCode .none = 0b00 ∧ metaPortCode .help = 0b01 ∧ metaPortCode .exit = 0b10 ∧ metaPortCode .debug = 0b11) ∧
  (errCode .ok = 0b00 ∧ errCode .notFound = 0b01 ∧ errCode .badIndex = 0b10 ∧ errCode .badOpk = 0b11)

/-! The decoder -/

/-- 40_frame_codec.md R123: the threshold readback of every status frame is that of its word 1, by bits 11:10; and the rule's own examples. -/
def Obligations.ThresholdReadbackPriority : Prop :=
  (∀ (c : Cfg) (w : StatusWords) (p : CpldWords),
    (w[1].extractLsb' 10 2 = 0b11 → (decodeStatus c w p).thrRb = .v17) ∧
    (w[1].extractLsb' 10 2 = 0b10 → (decodeStatus c w p).thrRb = .v84) ∧
    (w[1].extractLsb' 10 2 = 0b01 → (decodeStatus c w p).thrRb = .v33) ∧
    (w[1].extractLsb' 10 2 = 0b00 → (decodeStatus c w p).thrRb = .v166)) ∧
  (∀ w : Word16, (w.extractLsb' 10 2 = 0b11 → thrReadback w = .v17) ∧ (w.extractLsb' 10 2 = 0b10 → thrReadback w = .v84) ∧
    (w.extractLsb' 10 2 = 0b01 → thrReadback w = .v33) ∧ (w.extractLsb' 10 2 = 0b00 → thrReadback w = .v166)) ∧
  thrReadback 0x0400 = .v33 ∧ thrReadback 0x0C00 = .v17 ∧ thrReadback 0x0800 = .v84 ∧ thrReadback 0x0000 = .v166 ∧
  thrReadback 0xF3FF = .v166

/-- R121, R122, R124 to R128: every other field of the decoded status. -/
def Obligations.DecodedFields : Prop :=
  ∀ (c : Cfg) (w : StatusWords) (p : CpldWords),
    (decodeStatus c w p).general = w[0] ∧
    (decodeStatus c w p).frameErr = w[1].getLsbD c.pFe.val ∧
    (decodeStatus c w p).cmdErr = w[1].getLsbD c.pCe.val ∧
    (decodeStatus c w p).relayRail = w[1].getLsbD c.pRr.val ∧
    (decodeStatus c w p).coilErr = w[1].getLsbD c.pCoil.val ∧
    ((decodeStatus c w p).dwRb = .wet ↔ w[1].getLsbD 9 = c.dwWet.getLsbD 0) ∧
    ((decodeStatus c w p).syncRb = .sync ↔ w[1].getLsbD 8 = c.syncSync.getLsbD 0) ∧
    (∀ j, j < 5 → (decodeStatus c w p).relaysRb.getLsbD j = w[2].getLsbD j) ∧
    (∀ j, j < 7 → (decodeStatus c w p).inputs.getLsbD j = w[3].getLsbD j) ∧
    (decodeStatus c w p).cpldMd = p[0] ∧ (decodeStatus c w p).cpldYr = p[1]

/-- R129, R86, R88: the decode does not depend on a bit that R121 to R128 do not read. -/
def Obligations.DecodeIgnoresReservedBits : Prop :=
  ∀ (c : Cfg) (w w' : StatusWords) (p : CpldWords),
    w[0] = w'[0] →
    (∀ j, j = 8 ∨ j = 9 ∨ j = 10 ∨ j = 11 ∨ j = c.pFe.val ∨ j = c.pCe.val ∨ j = c.pRr.val ∨ j = c.pCoil.val →
      w[1].getLsbD j = w'[1].getLsbD j) →
    (∀ j, j < 5 → w[2].getLsbD j = w'[2].getLsbD j) →
    (∀ j, j < 7 → w[3].getLsbD j = w'[3].getLsbD j) →
    decodeStatus c w p = decodeStatus c w' p

/-- R131: a status frame that echoes the control and relay words decodes to the registers they carry. -/
def Obligations.EchoRoundTrip : Prop :=
  ∀ (c : Cfg) (r : RegFile) (e : StatusWords) (p : CpldWords),
    e[1] = (encodeFrame c r).control → e[2] = (encodeFrame c r).relay →
    (decodeStatus c e p).thrRb = r.thr ∧ (decodeStatus c e p).dwRb = r.dw ∧ (decodeStatus c e p).syncRb = r.sync ∧
    (decodeStatus c e p).relaysRb = r.rly

/-! The command table -/

/-- 41_command_table.md R145, R146: on a table with its sentinel last, named entries and distinct names (R144 a, b, c), a line is found at
exactly the entry before the sentinel whose name equals it. -/
def Obligations.LookupFindsTheNamedEntry : Prop :=
  ∀ (rom : List Entry) (line : List Byte) (i : Nat),
    Rom.sentinelLast rom = true → Rom.entriesNamed rom = true → Rom.namesDistinct rom = true →
    (lookup rom line = some i ↔ ∃ e, rom[i]? = some e ∧ e.opk ≠ Opk.endCode ∧ e.name = line)

/-- R145, R148: on any table the index found is that of the first entry with the line's name, no sentinel before it; otherwise none. -/
def Obligations.LookupIsFirstMatch : Prop :=
  ∀ (rom : List Entry) (line : List Byte),
    (∀ i, lookup rom line = some i ↔
      (∃ e, rom[i]? = some e ∧ e.opk ≠ Opk.endCode ∧ e.name = line) ∧
      ∀ j, j < i → ∃ e, rom[j]? = some e ∧ e.opk ≠ Opk.endCode ∧ e.name ≠ line)

/-- R147: the empty line never matches a well-formed table. -/
def Obligations.EmptyLineNeverMatches : Prop :=
  ∀ (lineMax : Nat) (rom : List Entry), Rom.wf lineMax rom = true → lookup rom [] = none

/-- R144, 00_scope.md R5, 20_memory.md R51, R55: a unit that boots has a table with the five properties of R144 and a configuration within the
constraints, and a well-formed one boots; any other is refused. Where the check stands is the model's choice (notes/assumptions/15.md), and that the
CPLD pair lies apart from the status slots is its reading of R51 (DEDUCED, notes/assumptions/22.md). -/
def Obligations.BootAdmitsWellFormedOnly : Prop :=
  (∀ (c : Cfg) (s : State), boot c = .next s →
    s = State.resetWith c ∧
    c.cmdRom.getLast? = some ⟨[], 0x1F⟩ ∧
    (∀ i e, i + 1 < c.cmdRom.length → c.cmdRom[i]? = some e → e.name ≠ [] ∧ e.opk ≠ 0x1F) ∧
    (c.cmdRom.map Entry.name).Nodup ∧
    (∀ e, e ∈ c.cmdRom → e.opk ≠ 0x00 ∧ ¬ (0x17 ≤ e.opk.toNat ∧ e.opk.toNat ≤ 0x1E)) ∧
    (∀ e, e ∈ c.cmdRom → e.name.length ≤ c.lineMax ∧ 0x0D ∉ e.name ∧ 0x0A ∉ e.name) ∧
    c.cmdBase % 4 = 0 ∧ c.statusBase % 4 = 0 ∧ c.cpldBase % 4 = 0 ∧
    c.ctWrite ≠ c.ctRead ∧ c.ctWrite ≠ c.ctCpld ∧ c.ctRead ≠ c.ctCpld ∧ (c.ctCpld = 0b00 ∨ c.ctCpld = 0b11) ∧
    (c.pFe ≠ c.pCe ∧ c.pFe ≠ c.pRr ∧ c.pFe ≠ c.pCoil ∧ c.pCe ≠ c.pRr ∧ c.pCe ≠ c.pCoil ∧ c.pRr ≠ c.pCoil) ∧
    (∀ p, p = c.pFe ∨ p = c.pCe ∨ p = c.pRr ∨ p = c.pCoil → p.val < 8 ∨ 11 < p.val) ∧
    1 ≤ c.lineMax ∧ (c.cpldBase + 16 ≤ c.statusBase ∨ c.statusBase + 28 ≤ c.cpldBase + 8)) ∧
  (∀ c : Cfg, c.wf = true → boot c = .next (State.resetWith c)) ∧
  (∀ c : Cfg, c.wf = false → boot c = .refused .badConfig)

/-! What each operation does -/

/-- 43_write_commands.md R180 to R183: THR17, THR33, THR84, THR166 answer a next state, `CT` Write, `THR` the value named. -/
def Obligations.ThresholdSetResult : Prop :=
  ∀ s : State,
    WriteCompletes .thr17 s { s with ct := .write, thr := .v17 } ∧
    WriteCompletes .thr33 s { s with ct := .write, thr := .v33 } ∧
    WriteCompletes .thr84 s { s with ct := .write, thr := .v84 } ∧
    WriteCompletes .thr166 s { s with ct := .write, thr := .v166 }

/-- R184, R185: SETDRY and SETWET. -/
def Obligations.DryWetSetResult : Prop :=
  ∀ s : State,
    WriteCompletes .setDry s { s with ct := .write, dw := .dry } ∧
    WriteCompletes .setWet s { s with ct := .write, dw := .wet }

/-- R186, R187: SYNCON clears the counter in its own transaction; SYNCOFF counts on from what the counter held. -/
def Obligations.SyncSetResult : Prop :=
  ∀ s : State,
    WriteCompletes .syncOn s { s with ct := .write, sync := .sync } ∧
    WriteCompletes .syncOff s { s with ct := .write, sync := .noSync } ∧
    (∃ t, exec .syncOn s = .next t ∧ t.sh = 0) ∧
    (∃ t, exec .syncOff s = .next t ∧ t.sh.toNat = (s.sh.toNat + 1) % 128)

/-- R188 to R192: each relay toggle flips its own bit. -/
def Obligations.RelayToggleResult : Prop :=
  ∀ s : State,
    WriteCompletes .tglAA s { s with ct := .write, rly := s.rly ^^^ 0b00001 } ∧
    WriteCompletes .tglAB s { s with ct := .write, rly := s.rly ^^^ 0b00010 } ∧
    WriteCompletes .tglCA s { s with ct := .write, rly := s.rly ^^^ 0b00100 } ∧
    WriteCompletes .tglCB s { s with ct := .write, rly := s.rly ^^^ 0b01000 } ∧
    WriteCompletes .tglCC s { s with ct := .write, rly := s.rly ^^^ 0b10000 }

/-- R193, R194: all relays on, all relays off. -/
def Obligations.AllRelaysResult : Prop :=
  ∀ s : State,
    WriteCompletes .rlyOn s { s with ct := .write, rly := 0b11111 } ∧
    WriteCompletes .rlyOff s { s with ct := .write, rly := 0b00000 }

/-- 44_query_commands.md R220 to R222: QTHR, QRD and QFULL write `CT` only, and the counter does not advance. -/
def Obligations.StatusQueryResult : Prop :=
  ∀ s : State,
    ReadQueryCompletes .qThr false s ∧ ReadQueryCompletes .qRd false s ∧ ReadQueryCompletes .qFull true s

/-- R223: QCPLD counts like a write and requests the pulse, the status read and the CPLD read. -/
def Obligations.CpldQueryResult : Prop :=
  ∀ s : State, ∃ t, exec .qCpld s = .next t ∧
    t = { s with ct := .cpldRevisionQuery, sh := t.sh, out := t.out, txn := Txn.fresh } ∧
    t.sh.toNat = countedFrom s.sync s.sh ∧ DispatchRecord .qCpld true true true s.out.index t

/-- 45_meta_commands.md R240 to R243: MHELP, MEXIT and MDEBUG set the record and nothing else. -/
def Obligations.MetaCommandResult : Prop :=
  ∀ s : State,
    RecordCompletes .mHelp .ok .help s.out.index (some 0x14) s ∧
    RecordCompletes .mExit .ok .exit s.out.index (some 0x15) s ∧
    RecordCompletes .mDebug .ok .debug s.out.index (some 0x16) s

/-- R244, 60_exceptions.md R253: each reserved code raises BADOPK, with index and code recorded. -/
def Obligations.ReservedCodeResult : Prop :=
  ∀ s : State,
    RecordCompletes .reserved00 .badOpk .none s.out.index (some 0x00) s ∧
    RecordCompletes .reserved17 .badOpk .none s.out.index (some 0x17) s ∧
    RecordCompletes .reserved18 .badOpk .none s.out.index (some 0x18) s ∧
    RecordCompletes .reserved19 .badOpk .none s.out.index (some 0x19) s ∧
    RecordCompletes .reserved1A .badOpk .none s.out.index (some 0x1A) s ∧
    RecordCompletes .reserved1B .badOpk .none s.out.index (some 0x1B) s ∧
    RecordCompletes .reserved1C .badOpk .none s.out.index (some 0x1C) s ∧
    RecordCompletes .reserved1D .badOpk .none s.out.index (some 0x1D) s ∧
    RecordCompletes .reserved1E .badOpk .none s.out.index (some 0x1E) s

/-- R244, R252: END raises BADINDEX, with index and code not recorded. -/
def Obligations.SentinelResult : Prop := ∀ s : State, RecordCompletes .endMark .badIndex .none none none s

/-- R188 to R192 and 10_state.md R28: a relay command flips exactly its own bit; applied twice it gives the RelayBank back, while the counter
has advanced twice (or is held at 0). -/
def Obligations.RelayToggleTwiceRestores : Prop :=
  ∀ (s : State) (i : Instr) (n : Nat),
    (i = .tglAA ∧ n = 0) ∨ (i = .tglAB ∧ n = 1) ∨ (i = .tglCA ∧ n = 2) ∨ (i = .tglCB ∧ n = 3) ∨ (i = .tglCC ∧ n = 4) →
    ∃ t u, exec i s = .next t ∧ exec i t = .next u ∧
      (∀ j, j < 5 → t.rly.getLsbD j = if j = n then !s.rly.getLsbD j else s.rly.getLsbD j) ∧
      u.rly = s.rly ∧ u.sh.toNat = (if s.sync = .sync then 0 else (s.sh.toNat + 2) % 128)

/-- 70_reset_and_hazards.md R289: two Read-class queries in a row send identical frames. -/
def Obligations.ConsecutiveQueriesSendTheSameFrame : Prop :=
  ∀ (s t u : State) (i j : Instr),
    (i = .qThr ∨ i = .qRd ∨ i = .qFull) → (j = .qThr ∨ j = .qRd ∨ j = .qFull) →
    exec i s = .next t → exec j t = .next u → ∃ f, t.out.frame = some f ∧ u.out.frame = some f

/-! What every operation has in common -/

/-- 42_dispatch.md R164: the counter after every dispatching transaction, by the `CT` and `SYNC` its mutation wrote. -/
def Obligations.CounterRule : Prop :=
  ∀ (i : Instr) (s t : State), isDispatching i = true → exec i s = .next t →
    (t.ct = .read → t.sh = s.sh) ∧
    (t.ct ≠ .read → t.sync = .sync → t.sh = 0) ∧
    (t.ct ≠ .read → t.sync = .noSync → t.sh.toNat = (s.sh.toNat + 1) % 128)

/-- R165, R163: a dispatching transaction sends the encoding of the new register file, whose `CT` is the class's. -/
def Obligations.FrameEncodesTheNewState : Prop :=
  ∀ (i : Instr) (s t : State), isDispatching i = true → exec i s = .next t →
    t.out.frame = some (encodeFrame t.cfg t.st) ∧
    (opkClass i = .write → t.ct = .write) ∧
    (opkClass i = .query → t.ct = if i = .qCpld then .cpldRevisionQuery else .read)

/-- R166: the host requests of every operation kind. -/
def Obligations.HostRequestTable : Prop :=
  ∀ (i : Instr) (s t : State), exec i s = .next t →
    (t.out.pendingRead = true ↔ i = .qThr ∨ i = .qRd ∨ i = .qFull ∨ i = .qCpld) ∧
    (t.out.readCpld = true ↔ i = .qFull ∨ i = .qCpld) ∧
    (t.out.resetReq = true ↔ i = .qCpld)

/-- R163, R169 and the table of 42_dispatch.md section 4: which operation kinds may change which register. `MID` never changes
(10_state.md R22). -/
def Obligations.RegisterWriters : Prop :=
  ∀ (i : Instr) (s t : State), exec i s = .next t →
    (t.thr ≠ s.thr → i = .thr17 ∨ i = .thr33 ∨ i = .thr84 ∨ i = .thr166) ∧
    (t.dw ≠ s.dw → i = .setDry ∨ i = .setWet) ∧
    (t.sync ≠ s.sync → i = .syncOn ∨ i = .syncOff) ∧
    (t.rly ≠ s.rly → i = .tglAA ∨ i = .tglAB ∨ i = .tglCA ∨ i = .tglCB ∨ i = .tglCC ∨ i = .rlyOn ∨ i = .rlyOff) ∧
    (t.ct ≠ s.ct → isDispatching i = true) ∧
    (t.sh ≠ s.sh → opkClass i = .write ∨ i = .qCpld) ∧
    t.mid = s.mid

/-- R50, R168, R282: no operation kind changes a byte of the link, the configuration, an input port, the moves to come or the draws. -/
def Obligations.OperationsLeaveTheRestAlone : Prop :=
  ∀ (i : Instr) (s t : State), exec i s = .next t →
    (∀ a, Memory.read t.link a = Memory.read s.link a) ∧ t.cfg = s.cfg ∧ t.statusIn = s.statusIn ∧ t.cpldIn = s.cpldIn ∧
    t.inbox = s.inbox ∧ t.draws = s.draws ∧ t.txn = Txn.fresh

/-- R168: `Step` and `Apply` give equal register files and equal output records on states with equal register files and configurations,
whatever the link, the ports, the host's progress, the moves to come and the previous record are; and they always answer. -/
def Obligations.StepAndApplyArePure : Prop :=
  ∀ (s s' : State), s.cfg = s'.cfg → s.st = s'.st →
    (∀ line, ∃ t t', applyLine line s = .next t ∧ applyLine line s' = .next t' ∧ t.st = t'.st ∧ t.out = t'.out) ∧
    (∀ i, ∃ t t', applyIndex i s = .next t ∧ applyIndex i s' = .next t' ∧ t.st = t'.st ∧ t.out = t'.out)

/-! The machine's step -/

/-- R161, R162: when the next move is an index of a command entry and the host is done with the previous transaction, the step is the decoded
operation, on the state with the move taken off and the record holding index and code. -/
def Obligations.StepRunsTheDecodedOperation : Prop :=
  ∀ (s : State) (i : Nat) (rest : List Event) (e : Entry),
    s.inbox = .index i :: rest → commandReady s = true → s.cfg.cmdRom[i]? = some e → e.opk ≠ 0x1F →
    step s = exec (decodeOpk e.opk)
      { s with inbox := rest, out := { Out.idle with index := some i, opk := some e.opk } }

/-- R161, 41_command_table.md R143, R151: a line found by lookup is the index it is found at; a console line is its first `LINE_MAX` bytes. -/
def Obligations.LineStepsAreIndexSteps : Prop :=
  ∀ (s : State) (rest : List Event) (text : List Byte),
    (∀ i, s.inbox = .line text :: rest → lookup s.cfg.cmdRom text = some i →
      step s = step { s with inbox := .index i :: rest }) ∧
    (s.inbox = .console text :: rest → step s = step { s with inbox := .line (text.take s.cfg.lineMax) :: rest })

/-- 60_exceptions.md R251: a line that is not found raises NOTFOUND, everything but the record unchanged. -/
def Obligations.UnknownLineRaisesNotFound : Prop :=
  ∀ (s : State) (rest : List Event) (text : List Byte),
    s.inbox = .line text :: rest → commandReady s = true → lookup s.cfg.cmdRom text = none →
    step s = .next { s with inbox := rest, out := { Out.idle with err := .notFound }, txn := Txn.fresh }

/-- R252: an index at or past the table's length, or the sentinel's, raises BADINDEX, everything but the record unchanged. -/
def Obligations.BadIndexStep : Prop :=
  ∀ (s : State) (rest : List Event) (i : Nat),
    s.inbox = .index i :: rest → commandReady s = true →
    (s.cfg.cmdRom.length ≤ i ∨ ∃ e, s.cfg.cmdRom[i]? = some e ∧ e.opk = 0x1F) →
    step s = .next { s with inbox := rest, out := { Out.idle with err := .badIndex }, txn := Txn.fresh }

/-- R169: a command that raises an error or is a meta-command leaves every register unchanged and produces no frame. -/
def Obligations.ErrorsAndMetaKeepRegisters : Prop :=
  ∀ s t : State, commandNext s = true → step s = .next t → t.out.err ≠ .ok ∨ t.out.metaCode ≠ .none →
    t.st = s.st ∧ t.out.frame = none ∧ t.out.pendingRead = false ∧ t.out.readCpld = false ∧ t.out.resetReq = false

/-- 10_state.md R29, 70_reset_and_hazards.md R281, R285: no move of the host on the link and no move of the UUT changes a register, the
output record or the configuration; with no move to come the machine holds still (60_exceptions.md R269). That
the record stands through these moves is the model's choice (DESIGN CHOICE, notes/assumptions/18.md): the rules speak of the registers. -/
def Obligations.OutsideMovesKeepRegisters : Prop :=
  (∀ s t : State, outsideNext s = true → step s = .next t → t.st = s.st ∧ t.out = s.out ∧ t.cfg = s.cfg) ∧
  (∀ s : State, s.inbox = [] → step s = .next s)

/-- R26, R31: only SYNCON makes `SYNC` Sync, and its own transaction leaves the counter at 0. -/
def Obligations.SyncIsSetBySyncOnOnly : Prop :=
  ∀ s t : State, step s = .next t → s.sync = .noSync → t.sync = .sync →
    t.out.opk = some 0x07 ∧ t.sh = 0 ∧ t.ct = .write

/-- 60_exceptions.md R266: a session ends on the `exit` meta-command only, and the end of the run is the state before it. -/
def Obligations.SessionEndsOnExitOnly : Prop :=
  ∀ s t : State, step s = .next t → ¬ sessionEnded s → sessionEnded t →
    t.out.opk = some 0x15 ∧ t.out.err = .ok ∧ t.out.frame = none ∧ t.st = s.st

/-- 70_reset_and_hazards.md R280: `rst` gives every register its reset value and an idle record in one step, from any state; the state after
reset has the same, and reset keeps the configuration (R282). -/
def Obligations.ResetGivesS0 : Prop :=
  (∀ (s : State) (rest : List Event), s.inbox = .rst :: rest → ∃ t, step s = .next t ∧
    t.st = { ct := .read, mid := s.cfg.moduleId, thr := .v166, dw := .wet, sync := .noSync, sh := 0, rly := 0 } ∧
    t.out = Out.idle ∧ t.cfg = s.cfg) ∧
  State.reset.st = { ct := .read, mid := State.reset.cfg.moduleId, thr := .v166, dw := .wet, sync := .noSync, sh := 0, rly := 0 } ∧
  State.reset.out = Out.idle

/-- R284: after reset the first write that leaves NoSync, or QCPLD, sends `sample_hold` 1, and a Read-class query sends 0. The values rest on the
reset counter 0, the spec's own decision D14 (unsafe, notes/assumptions/5.md). -/
def Obligations.FirstFrameAfterReset : Prop :=
  ∀ (c : Cfg) (i : Instr), isDispatching i = true → i ≠ .syncOn →
    ∃ t f, exec i (State.resetWith c) = .next t ∧ t.out.frame = some f ∧
      f.control.extractLsb' 0 8 = if i = .qThr ∨ i = .qRd ∨ i = .qFull then 0 else 1

/-! The link and the host's contract -/

/-- 20_memory.md R52, R56, R57, R75: writing frame word `k`, in the order header, control, relay, inverse, footer, in its place stores the word in its slot, bits 31:16 zero, and changes no other byte and
no register. That no byte beside the slot changes is the model's choice (unsafe, notes/assumptions/28.md). -/
def Obligations.FrameWordIsStoredInItsSlot : Prop :=
  ∀ (s : State) (k : Nat) (f : Frame), s.out.frame = some f → s.txn.abandoned = false → k < 5 → s.txn.written = k →
    (s.out.resetReq = true → s.txn.pulsed = true) → s.cfg.cmdBase % 4 = 0 →
    ∃ (t : State) (w : Word16), hostStep (.writeWord k) s = .next t ∧
      [f.header, f.control, f.relay, f.inverse, f.footer][k]? = some w ∧
      (s.cfg.byteOrder = .little →
        Memory.read t.link (s.cfg.cmdBase + 4 * k) = some (w.extractLsb' 0 8) ∧
        Memory.read t.link (s.cfg.cmdBase + 4 * k + 1) = some (w.extractLsb' 8 8) ∧
        Memory.read t.link (s.cfg.cmdBase + 4 * k + 2) = some 0 ∧
        Memory.read t.link (s.cfg.cmdBase + 4 * k + 3) = some 0) ∧
      (s.cfg.byteOrder = .big →
        Memory.read t.link (s.cfg.cmdBase + 4 * k) = some 0 ∧
        Memory.read t.link (s.cfg.cmdBase + 4 * k + 1) = some 0 ∧
        Memory.read t.link (s.cfg.cmdBase + 4 * k + 2) = some (w.extractLsb' 8 8) ∧
        Memory.read t.link (s.cfg.cmdBase + 4 * k + 3) = some (w.extractLsb' 0 8)) ∧
      (∀ a, a < s.cfg.cmdBase + 4 * k ∨ s.cfg.cmdBase + 4 * k + 4 ≤ a → Memory.read t.link a = Memory.read s.link a) ∧
      t = { s with link := t.link, txn := { s.txn with written := k + 1 } }

/-- R53, R54, R56, R57, R61: a slot the UUT has put on the link is what the host reads, its low 16 bits, the ports as they were; and word `k` of what the
host has read is what it presents on the port; where the pair was not requested `cpld_in` carries whatever the host presented (R128).
That the UUT's value stands until the read is the model's choice (notes/assumptions/9.md), and so is that presenting changes no byte of the link
(notes/assumptions/28.md). -/
def Obligations.PresentedWordIsTheSlotsLowHalf : Prop :=
  (∀ (s : State) (k : Nat) (v : Slot) (rest : List Event),
    (s.inbox = .uut (s.cfg.statusBase / 4 + k) v :: .host (.readStatus k) :: rest → mayReadStatus s k = true →
      s.cfg.statusBase % 4 = 0 →
      ∃ t : State, Host.Core.run Sys2Proof.core 2 s = .next t ∧ t.txn.statusRead = s.txn.statusRead ++ [v.extractLsb' 0 16] ∧
        t.txn.statusRead[k]? = some (v.extractLsb' 0 16) ∧
        t.txn.cpldRead = s.txn.cpldRead ∧ t.statusIn = s.statusIn ∧ t.cpldIn = s.cpldIn ∧ t.st = s.st) ∧
    (s.inbox = .uut (s.cfg.cpldBase / 4 + 2 + k) v :: .host (.readCpld k) :: rest → mayReadCpld s k = true →
      s.cfg.cpldBase % 4 = 0 →
      ∃ t : State, Host.Core.run Sys2Proof.core 2 s = .next t ∧ t.txn.cpldRead = s.txn.cpldRead ++ [v.extractLsb' 0 16] ∧
        t.txn.cpldRead[k]? = some (v.extractLsb' 0 16) ∧
        t.txn.statusRead = s.txn.statusRead ∧ t.statusIn = s.statusIn ∧ t.cpldIn = s.cpldIn ∧ t.st = s.st)) ∧
  (∀ (s : State) (p : CpldWords), frameSent s = true → s.txn.statusRead.length = 7 → (s.out.readCpld = true → s.txn.cpldRead.length = 2) →
    s.txn.presented = false →
    ∃ t : State, hostStep (.present p) s = .next t ∧ t.statusIn.toList = s.txn.statusRead ∧
      (s.out.readCpld = true → t.cpldIn.toList = s.txn.cpldRead) ∧ (s.out.readCpld = false → t.cpldIn = p) ∧
      t = { s with statusIn := t.statusIn, cpldIn := t.cpldIn, txn := { s.txn with presented := true } })

/-- R61, R52, R262, R263: the host's moves that send a frame put the whole frame on the link for the UUT, change no byte outside the command
region's 20 bytes, and leave the registers and the record. That the pulse itself changes no byte is the model's choice (unsafe,
notes/assumptions/9.md), and so is that a write changes its slot only (unsafe, notes/assumptions/28.md); that the record
stands is too (notes/assumptions/18.md). -/
def Obligations.SendScheduleDeliversTheFrame : Prop :=
  ∀ (s : State) (f : Frame), s.out.frame = some f → s.txn = Txn.fresh → s.cfg.cmdBase % 4 = 0 →
    s.inbox = sendSchedule s.out.resetReq →
    ∃ t : State, Host.Core.run Sys2Proof.core s.inbox.length s = .next t ∧
      uutView t = [some (f.header.setWidth 32), some (f.control.setWidth 32), some (f.relay.setWidth 32),
        some (f.inverse.setWidth 32), some (f.footer.setWidth 32)] ∧
      (∀ a, a < s.cfg.cmdBase ∨ s.cfg.cmdBase + 20 ≤ a → Memory.read t.link a = Memory.read s.link a) ∧
      t.st = s.st ∧ t.out = s.out ∧ t.inbox = [] ∧ frameSent t = true ∧ (s.out.pendingRead = false → s.out.readCpld = false →
        commandReady t = true)

/-- R53, R54, R61, R264: after the frame is sent, the wait, the seven status reads, the two CPLD reads where they are requested, and the presenting fill
the ports with the slots in order; the decode then is that of the link's contents, and the transaction is finished. Where the pair is not requested,
`cpld_in` carries whatever the host presented (40_frame_codec.md R128). That the reads change no byte of the link is the model's choice (unsafe,
notes/assumptions/28.md). -/
def Obligations.StatusScheduleFillsThePort : Prop :=
  ∀ (s : State) (d : Nat) (p : CpldWords), frameSent s = true → s.txn.statusRead = [] → s.txn.cpldRead = [] → s.txn.presented = false →
    s.cfg.delayD ≤ s.txn.waited + d → s.cfg.statusBase % 4 = 0 → (s.out.readCpld = true → s.cfg.cpldBase % 4 = 0) →
    s.inbox = statusSchedule d s.out.readCpld p →
    ∃ t : State, Host.Core.run Sys2Proof.core s.inbox.length s = .next t ∧
      (∀ k, (h : k < 7) → t.statusIn[k] =
        (readSlot s.cfg.byteOrder s.link (s.draws + k) (s.cfg.statusBase + 4 * k)).extractLsb' 0 16) ∧
      (s.out.readCpld = true → ∀ k, (h : k < 2) → t.cpldIn[k] =
        (readSlot s.cfg.byteOrder s.link (s.draws + 7 + k) (s.cfg.cpldBase + 8 + 4 * k)).extractLsb' 0 16) ∧
      (s.out.readCpld = false → t.cpldIn = p) ∧
      t.dec = decodeStatus s.cfg t.statusIn t.cpldIn ∧ t.st = s.st ∧ t.out = s.out ∧ t.link = s.link ∧ t.inbox = [] ∧
      t.txn.presented = true ∧ commandReady t = true ∧ (s.out.readCpld = true → cpldMeaningful t)

/-- R265, R290, 93_implementation_defined.md I16: a command presented before the host is done is stuck (notes/assumptions/10.md). -/
def Obligations.PrematureCommandIsStuck : Prop :=
  ∀ s : State, commandNext s = true → commandReady s = false → step s = .fault .commandBeforeDone

/-- R54, R61, R263, R264, R286, R288, I16: host moves out of their place are stuck (notes/assumptions/10.md, notes/assumptions/11.md). -/
def Obligations.HostMovesOutOfPlaceAreStuck : Prop :=
  ∀ s : State,
    -- the pulse: unasked, a second time, after a frame word
    (s.out.resetReq = false ∨ s.txn.pulsed = true ∨ 0 < s.txn.written → hostStep .pulse s = .fault .pulseOutOfPlace) ∧
    -- a frame word: before a requested pulse, out of order, past the fifth
    (∀ k, (s.out.resetReq = true ∧ s.txn.pulsed = false) ∨ k ≠ s.txn.written ∨ 5 ≤ k →
      hostStep (.writeWord k) s = .fault .writeOutOfPlace) ∧
    -- a status slot: before the fifth frame word or the delay, out of order, past the seventh
    (∀ k, s.txn.written ≠ 5 ∨ s.txn.waited < s.cfg.delayD ∨ k ≠ s.txn.statusRead.length ∨ 7 ≤ k →
      hostStep (.readStatus k) s = .fault .statusReadOutOfPlace) ∧
    -- a CPLD slot: unasked, before the frame or the whole status, out of order, past the second
    (∀ k, s.out.readCpld = false ∨ s.txn.written ≠ 5 ∨ s.txn.statusRead.length ≠ 7 ∨ k ≠ s.txn.cpldRead.length ∨ 2 ≤ k →
      hostStep (.readCpld k) s = .fault .cpldReadOutOfPlace) ∧
    -- the presenting: before the whole frame, status or requested CPLD pair, or a second time
    (s.txn.written ≠ 5 ∨ s.txn.statusRead.length ≠ 7 ∨ (s.out.readCpld = true ∧ s.txn.cpldRead.length ≠ 2) ∨ s.txn.presented = true →
      ∀ p, hostStep (.present p) s = .fault .presentOutOfPlace) ∧
    -- no frame, or a transaction given up: nothing to do on the link
    (s.out.frame = none ∨ s.txn.abandoned = true →
      hostStep .pulse s = .fault .pulseOutOfPlace ∧ (∀ p, hostStep (.present p) s = .fault .presentOutOfPlace) ∧
      ∀ k, hostStep (.writeWord k) s = .fault .writeOutOfPlace ∧ hostStep (.readStatus k) s = .fault .statusReadOutOfPlace ∧
        hostStep (.readCpld k) s = .fault .cpldReadOutOfPlace) ∧
    (s.out.frame = none → hostStep .linkFailed s = .fault .noFrameToSend ∧ hostStep .resend s = .fault .noFrameToSend)

/-- 42_dispatch.md R167, R285: a failed link access rolls nothing back, and the next command builds on the register file as it is. What a resend
starts over is the model's choice (notes/assumptions/12.md), and so is that a failed access changes no byte of the link (unsafe,
notes/assumptions/27.md). -/
def Obligations.FailedWriteRollsNothingBack : Prop :=
  ∀ (s : State) (f : Frame), s.out.frame = some f → ∃ t, hostStep .linkFailed s = .next t ∧ t.st = s.st ∧ t.out = s.out ∧
    t.link = s.link ∧ commandReady t = true ∧
    ∃ u, hostStep .resend t = .next u ∧ u.st = s.st ∧ u.out = s.out ∧ u.txn = { Txn.fresh with pulsed := s.txn.pulsed }

/-! The invariant of a session -/

/-- Every step keeps `SessionInv`: the link's canonical form (the model's choice, notes/assumptions/7.md), R31, R165 to R167, R169, R52 to
R54, R61, R286, R287. -/
def Obligations.EveryStepKeepsSessionInv : Prop :=
  ∀ s t : State, SessionInv s → step s = .next t → SessionInv t

/-- `SessionInv` holds at reset, for every configuration. -/
def Obligations.SessionInvHoldsAtReset : Prop := (∀ c : Cfg, SessionInv (State.resetWith c)) ∧ SessionInv State.reset
end

