-- ==== Sys2Proof/Laws/State.lean ====
section
/-! SUPPORT. What each update of the state leaves in each field: one lemma for each field and update, so that no proof unfolds a record. -/

namespace Sys2Proof.Machine

open Sys2Proof

@[simp] theorem setOut_cfg (s : State) (o : Out) : (setOut s o).cfg = s.cfg := rfl
@[simp] theorem setOut_ct (s : State) (o : Out) : (setOut s o).ct = s.ct := rfl
@[simp] theorem setOut_thr (s : State) (o : Out) : (setOut s o).thr = s.thr := rfl
@[simp] theorem setOut_dw (s : State) (o : Out) : (setOut s o).dw = s.dw := rfl
@[simp] theorem setOut_sync (s : State) (o : Out) : (setOut s o).sync = s.sync := rfl
@[simp] theorem setOut_sh (s : State) (o : Out) : (setOut s o).sh = s.sh := rfl
@[simp] theorem setOut_rly (s : State) (o : Out) : (setOut s o).rly = s.rly := rfl
@[simp] theorem setOut_out (s : State) (o : Out) : (setOut s o).out = o := rfl
@[simp] theorem setOut_statusIn (s : State) (o : Out) : (setOut s o).statusIn = s.statusIn := rfl
@[simp] theorem setOut_cpldIn (s : State) (o : Out) : (setOut s o).cpldIn = s.cpldIn := rfl
@[simp] theorem setOut_link (s : State) (o : Out) : (setOut s o).link = s.link := rfl
@[simp] theorem setOut_txn (s : State) (o : Out) : (setOut s o).txn = Txn.fresh := rfl
@[simp] theorem setOut_inbox (s : State) (o : Out) : (setOut s o).inbox = s.inbox := rfl
@[simp] theorem setOut_draws (s : State) (o : Out) : (setOut s o).draws = s.draws := rfl

@[simp] theorem asWrite_cfg (s : State) : (asWrite s).cfg = s.cfg := rfl
@[simp] theorem asWrite_ct (s : State) : (asWrite s).ct = .write := rfl
@[simp] theorem asWrite_thr (s : State) : (asWrite s).thr = s.thr := rfl
@[simp] theorem asWrite_dw (s : State) : (asWrite s).dw = s.dw := rfl
@[simp] theorem asWrite_sync (s : State) : (asWrite s).sync = s.sync := rfl
@[simp] theorem asWrite_sh (s : State) : (asWrite s).sh = s.sh := rfl
@[simp] theorem asWrite_rly (s : State) : (asWrite s).rly = s.rly := rfl
@[simp] theorem asWrite_out (s : State) : (asWrite s).out = s.out := rfl
@[simp] theorem asWrite_statusIn (s : State) : (asWrite s).statusIn = s.statusIn := rfl
@[simp] theorem asWrite_cpldIn (s : State) : (asWrite s).cpldIn = s.cpldIn := rfl
@[simp] theorem asWrite_link (s : State) : (asWrite s).link = s.link := rfl
@[simp] theorem asWrite_txn (s : State) : (asWrite s).txn = s.txn := rfl
@[simp] theorem asWrite_inbox (s : State) : (asWrite s).inbox = s.inbox := rfl
@[simp] theorem asWrite_draws (s : State) : (asWrite s).draws = s.draws := rfl

@[simp] theorem writeThreshold_cfg (v : Threshold) (s : State) : (writeThreshold v s).cfg = s.cfg := rfl
@[simp] theorem writeThreshold_ct (v : Threshold) (s : State) : (writeThreshold v s).ct = .write := rfl
@[simp] theorem writeThreshold_thr (v : Threshold) (s : State) : (writeThreshold v s).thr = v := rfl
@[simp] theorem writeThreshold_dw (v : Threshold) (s : State) : (writeThreshold v s).dw = s.dw := rfl
@[simp] theorem writeThreshold_sync (v : Threshold) (s : State) : (writeThreshold v s).sync = s.sync := rfl
@[simp] theorem writeThreshold_sh (v : Threshold) (s : State) : (writeThreshold v s).sh = s.sh := rfl
@[simp] theorem writeThreshold_rly (v : Threshold) (s : State) : (writeThreshold v s).rly = s.rly := rfl
@[simp] theorem writeThreshold_out (v : Threshold) (s : State) : (writeThreshold v s).out = s.out := rfl
@[simp] theorem writeThreshold_statusIn (v : Threshold) (s : State) : (writeThreshold v s).statusIn = s.statusIn := rfl
@[simp] theorem writeThreshold_cpldIn (v : Threshold) (s : State) : (writeThreshold v s).cpldIn = s.cpldIn := rfl
@[simp] theorem writeThreshold_link (v : Threshold) (s : State) : (writeThreshold v s).link = s.link := rfl
@[simp] theorem writeThreshold_txn (v : Threshold) (s : State) : (writeThreshold v s).txn = s.txn := rfl
@[simp] theorem writeThreshold_inbox (v : Threshold) (s : State) : (writeThreshold v s).inbox = s.inbox := rfl
@[simp] theorem writeThreshold_draws (v : Threshold) (s : State) : (writeThreshold v s).draws = s.draws := rfl

@[simp] theorem writeDryWet_cfg (d : DryWet) (s : State) : (writeDryWet d s).cfg = s.cfg := rfl
@[simp] theorem writeDryWet_ct (d : DryWet) (s : State) : (writeDryWet d s).ct = .write := rfl
@[simp] theorem writeDryWet_thr (d : DryWet) (s : State) : (writeDryWet d s).thr = s.thr := rfl
@[simp] theorem writeDryWet_dw (d : DryWet) (s : State) : (writeDryWet d s).dw = d := rfl
@[simp] theorem writeDryWet_sync (d : DryWet) (s : State) : (writeDryWet d s).sync = s.sync := rfl
@[simp] theorem writeDryWet_sh (d : DryWet) (s : State) : (writeDryWet d s).sh = s.sh := rfl
@[simp] theorem writeDryWet_rly (d : DryWet) (s : State) : (writeDryWet d s).rly = s.rly := rfl
@[simp] theorem writeDryWet_out (d : DryWet) (s : State) : (writeDryWet d s).out = s.out := rfl
@[simp] theorem writeDryWet_statusIn (d : DryWet) (s : State) : (writeDryWet d s).statusIn = s.statusIn := rfl
@[simp] theorem writeDryWet_cpldIn (d : DryWet) (s : State) : (writeDryWet d s).cpldIn = s.cpldIn := rfl
@[simp] theorem writeDryWet_link (d : DryWet) (s : State) : (writeDryWet d s).link = s.link := rfl
@[simp] theorem writeDryWet_txn (d : DryWet) (s : State) : (writeDryWet d s).txn = s.txn := rfl
@[simp] theorem writeDryWet_inbox (d : DryWet) (s : State) : (writeDryWet d s).inbox = s.inbox := rfl
@[simp] theorem writeDryWet_draws (d : DryWet) (s : State) : (writeDryWet d s).draws = s.draws := rfl

@[simp] theorem writeSync_cfg (m : SyncMode) (s : State) : (writeSync m s).cfg = s.cfg := rfl
@[simp] theorem writeSync_ct (m : SyncMode) (s : State) : (writeSync m s).ct = .write := rfl
@[simp] theorem writeSync_thr (m : SyncMode) (s : State) : (writeSync m s).thr = s.thr := rfl
@[simp] theorem writeSync_dw (m : SyncMode) (s : State) : (writeSync m s).dw = s.dw := rfl
@[simp] theorem writeSync_sync (m : SyncMode) (s : State) : (writeSync m s).sync = m := rfl
@[simp] theorem writeSync_sh (m : SyncMode) (s : State) : (writeSync m s).sh = s.sh := rfl
@[simp] theorem writeSync_rly (m : SyncMode) (s : State) : (writeSync m s).rly = s.rly := rfl
@[simp] theorem writeSync_out (m : SyncMode) (s : State) : (writeSync m s).out = s.out := rfl
@[simp] theorem writeSync_statusIn (m : SyncMode) (s : State) : (writeSync m s).statusIn = s.statusIn := rfl
@[simp] theorem writeSync_cpldIn (m : SyncMode) (s : State) : (writeSync m s).cpldIn = s.cpldIn := rfl
@[simp] theorem writeSync_link (m : SyncMode) (s : State) : (writeSync m s).link = s.link := rfl
@[simp] theorem writeSync_txn (m : SyncMode) (s : State) : (writeSync m s).txn = s.txn := rfl
@[simp] theorem writeSync_inbox (m : SyncMode) (s : State) : (writeSync m s).inbox = s.inbox := rfl
@[simp] theorem writeSync_draws (m : SyncMode) (s : State) : (writeSync m s).draws = s.draws := rfl

@[simp] theorem writeRelays_cfg (v : BitVec 5) (s : State) : (writeRelays v s).cfg = s.cfg := rfl
@[simp] theorem writeRelays_ct (v : BitVec 5) (s : State) : (writeRelays v s).ct = .write := rfl
@[simp] theorem writeRelays_thr (v : BitVec 5) (s : State) : (writeRelays v s).thr = s.thr := rfl
@[simp] theorem writeRelays_dw (v : BitVec 5) (s : State) : (writeRelays v s).dw = s.dw := rfl
@[simp] theorem writeRelays_sync (v : BitVec 5) (s : State) : (writeRelays v s).sync = s.sync := rfl
@[simp] theorem writeRelays_sh (v : BitVec 5) (s : State) : (writeRelays v s).sh = s.sh := rfl
@[simp] theorem writeRelays_rly (v : BitVec 5) (s : State) : (writeRelays v s).rly = v := rfl
@[simp] theorem writeRelays_out (v : BitVec 5) (s : State) : (writeRelays v s).out = s.out := rfl
@[simp] theorem writeRelays_statusIn (v : BitVec 5) (s : State) : (writeRelays v s).statusIn = s.statusIn := rfl
@[simp] theorem writeRelays_cpldIn (v : BitVec 5) (s : State) : (writeRelays v s).cpldIn = s.cpldIn := rfl
@[simp] theorem writeRelays_link (v : BitVec 5) (s : State) : (writeRelays v s).link = s.link := rfl
@[simp] theorem writeRelays_txn (v : BitVec 5) (s : State) : (writeRelays v s).txn = s.txn := rfl
@[simp] theorem writeRelays_inbox (v : BitVec 5) (s : State) : (writeRelays v s).inbox = s.inbox := rfl
@[simp] theorem writeRelays_draws (v : BitVec 5) (s : State) : (writeRelays v s).draws = s.draws := rfl

@[simp] theorem toggleRelay_cfg (r : Relay) (s : State) : (toggleRelay r s).cfg = s.cfg := rfl
@[simp] theorem toggleRelay_ct (r : Relay) (s : State) : (toggleRelay r s).ct = .write := rfl
@[simp] theorem toggleRelay_thr (r : Relay) (s : State) : (toggleRelay r s).thr = s.thr := rfl
@[simp] theorem toggleRelay_dw (r : Relay) (s : State) : (toggleRelay r s).dw = s.dw := rfl
@[simp] theorem toggleRelay_sync (r : Relay) (s : State) : (toggleRelay r s).sync = s.sync := rfl
@[simp] theorem toggleRelay_sh (r : Relay) (s : State) : (toggleRelay r s).sh = s.sh := rfl
@[simp] theorem toggleRelay_rly (r : Relay) (s : State) : (toggleRelay r s).rly = s.rly ^^^ relayMask r := rfl
@[simp] theorem toggleRelay_out (r : Relay) (s : State) : (toggleRelay r s).out = s.out := rfl
@[simp] theorem toggleRelay_statusIn (r : Relay) (s : State) : (toggleRelay r s).statusIn = s.statusIn := rfl
@[simp] theorem toggleRelay_cpldIn (r : Relay) (s : State) : (toggleRelay r s).cpldIn = s.cpldIn := rfl
@[simp] theorem toggleRelay_link (r : Relay) (s : State) : (toggleRelay r s).link = s.link := rfl
@[simp] theorem toggleRelay_txn (r : Relay) (s : State) : (toggleRelay r s).txn = s.txn := rfl
@[simp] theorem toggleRelay_inbox (r : Relay) (s : State) : (toggleRelay r s).inbox = s.inbox := rfl
@[simp] theorem toggleRelay_draws (r : Relay) (s : State) : (toggleRelay r s).draws = s.draws := rfl

@[simp] theorem asQuery_cfg (t : CmdType) (s : State) : (asQuery t s).cfg = s.cfg := rfl
@[simp] theorem asQuery_ct (t : CmdType) (s : State) : (asQuery t s).ct = t := rfl
@[simp] theorem asQuery_thr (t : CmdType) (s : State) : (asQuery t s).thr = s.thr := rfl
@[simp] theorem asQuery_dw (t : CmdType) (s : State) : (asQuery t s).dw = s.dw := rfl
@[simp] theorem asQuery_sync (t : CmdType) (s : State) : (asQuery t s).sync = s.sync := rfl
@[simp] theorem asQuery_sh (t : CmdType) (s : State) : (asQuery t s).sh = s.sh := rfl
@[simp] theorem asQuery_rly (t : CmdType) (s : State) : (asQuery t s).rly = s.rly := rfl
@[simp] theorem asQuery_out (t : CmdType) (s : State) : (asQuery t s).out = s.out := rfl
@[simp] theorem asQuery_statusIn (t : CmdType) (s : State) : (asQuery t s).statusIn = s.statusIn := rfl
@[simp] theorem asQuery_cpldIn (t : CmdType) (s : State) : (asQuery t s).cpldIn = s.cpldIn := rfl
@[simp] theorem asQuery_link (t : CmdType) (s : State) : (asQuery t s).link = s.link := rfl
@[simp] theorem asQuery_txn (t : CmdType) (s : State) : (asQuery t s).txn = s.txn := rfl
@[simp] theorem asQuery_inbox (t : CmdType) (s : State) : (asQuery t s).inbox = s.inbox := rfl
@[simp] theorem asQuery_draws (t : CmdType) (s : State) : (asQuery t s).draws = s.draws := rfl

@[simp] theorem fetched_cfg (i : Nat) (k : Opk) (s : State) : (fetched i k s).cfg = s.cfg := rfl
@[simp] theorem fetched_ct (i : Nat) (k : Opk) (s : State) : (fetched i k s).ct = s.ct := rfl
@[simp] theorem fetched_thr (i : Nat) (k : Opk) (s : State) : (fetched i k s).thr = s.thr := rfl
@[simp] theorem fetched_dw (i : Nat) (k : Opk) (s : State) : (fetched i k s).dw = s.dw := rfl
@[simp] theorem fetched_sync (i : Nat) (k : Opk) (s : State) : (fetched i k s).sync = s.sync := rfl
@[simp] theorem fetched_sh (i : Nat) (k : Opk) (s : State) : (fetched i k s).sh = s.sh := rfl
@[simp] theorem fetched_rly (i : Nat) (k : Opk) (s : State) : (fetched i k s).rly = s.rly := rfl
@[simp] theorem fetched_out (i : Nat) (k : Opk) (s : State) : (fetched i k s).out = { Out.idle with index := some i, opk := some k } := rfl
@[simp] theorem fetched_statusIn (i : Nat) (k : Opk) (s : State) : (fetched i k s).statusIn = s.statusIn := rfl
@[simp] theorem fetched_cpldIn (i : Nat) (k : Opk) (s : State) : (fetched i k s).cpldIn = s.cpldIn := rfl
@[simp] theorem fetched_link (i : Nat) (k : Opk) (s : State) : (fetched i k s).link = s.link := rfl
@[simp] theorem fetched_txn (i : Nat) (k : Opk) (s : State) : (fetched i k s).txn = s.txn := rfl
@[simp] theorem fetched_inbox (i : Nat) (k : Opk) (s : State) : (fetched i k s).inbox = s.inbox := rfl
@[simp] theorem fetched_draws (i : Nat) (k : Opk) (s : State) : (fetched i k s).draws = s.draws := rfl

@[simp] theorem rst_cfg (s : State) : (rst s).cfg = s.cfg := rfl
@[simp] theorem rst_ct (s : State) : (rst s).ct = .read := rfl
@[simp] theorem rst_thr (s : State) : (rst s).thr = .v166 := rfl
@[simp] theorem rst_dw (s : State) : (rst s).dw = .wet := rfl
@[simp] theorem rst_sync (s : State) : (rst s).sync = .noSync := rfl
@[simp] theorem rst_sh (s : State) : (rst s).sh = 0 := rfl
@[simp] theorem rst_rly (s : State) : (rst s).rly = 0b00000 := rfl
@[simp] theorem rst_out (s : State) : (rst s).out = Out.idle := rfl
@[simp] theorem rst_statusIn (s : State) : (rst s).statusIn = s.statusIn := rfl
@[simp] theorem rst_cpldIn (s : State) : (rst s).cpldIn = s.cpldIn := rfl
@[simp] theorem rst_link (s : State) : (rst s).link = s.link := rfl
@[simp] theorem rst_txn (s : State) : (rst s).txn = Txn.fresh := rfl
@[simp] theorem rst_inbox (s : State) : (rst s).inbox = s.inbox := rfl
@[simp] theorem rst_draws (s : State) : (rst s).draws = s.draws := rfl

@[simp] theorem withOpk_cfg (s : State) (k : Opk) : (withOpk s k).cfg = { s.cfg with cmdRom := oneEntryRom k } := rfl
@[simp] theorem withOpk_ct (s : State) (k : Opk) : (withOpk s k).ct = s.ct := rfl
@[simp] theorem withOpk_thr (s : State) (k : Opk) : (withOpk s k).thr = s.thr := rfl
@[simp] theorem withOpk_dw (s : State) (k : Opk) : (withOpk s k).dw = s.dw := rfl
@[simp] theorem withOpk_sync (s : State) (k : Opk) : (withOpk s k).sync = s.sync := rfl
@[simp] theorem withOpk_sh (s : State) (k : Opk) : (withOpk s k).sh = s.sh := rfl
@[simp] theorem withOpk_rly (s : State) (k : Opk) : (withOpk s k).rly = s.rly := rfl
@[simp] theorem withOpk_out (s : State) (k : Opk) : (withOpk s k).out = Out.idle := rfl
@[simp] theorem withOpk_statusIn (s : State) (k : Opk) : (withOpk s k).statusIn = s.statusIn := rfl
@[simp] theorem withOpk_cpldIn (s : State) (k : Opk) : (withOpk s k).cpldIn = s.cpldIn := rfl
@[simp] theorem withOpk_link (s : State) (k : Opk) : (withOpk s k).link = s.link := rfl
@[simp] theorem withOpk_txn (s : State) (k : Opk) : (withOpk s k).txn = Txn.fresh := rfl
@[simp] theorem withOpk_inbox (s : State) (k : Opk) : (withOpk s k).inbox = .index 0 :: s.inbox := rfl
@[simp] theorem withOpk_draws (s : State) (k : Opk) : (withOpk s k).draws = s.draws := rfl

/-! The observation port reads the registers (10_state.md R36). -/

@[simp] theorem st_ct (s : State) : s.st.ct = s.ct := rfl
@[simp] theorem st_mid (s : State) : s.st.mid = s.cfg.moduleId := rfl
@[simp] theorem st_thr (s : State) : s.st.thr = s.thr := rfl
@[simp] theorem st_dw (s : State) : s.st.dw = s.dw := rfl
@[simp] theorem st_sync (s : State) : s.st.sync = s.sync := rfl
@[simp] theorem st_sh (s : State) : s.st.sh = s.sh := rfl
@[simp] theorem st_rly (s : State) : s.st.rly = s.rly := rfl
@[simp] theorem mid_hardwired (s : State) : s.mid = s.cfg.moduleId := rfl
@[simp] theorem setOut_st (s : State) (o : Out) : (setOut s o).st = s.st := rfl
@[simp] theorem fetched_st (i : Nat) (k : Opk) (s : State) : (fetched i k s).st = s.st := rfl

/-- Equal registers are equal observations, given equal configurations. -/
theorem st_congr {s t : State} (hc : s.cfg = t.cfg) (h1 : s.ct = t.ct) (h2 : s.thr = t.thr) (h3 : s.dw = t.dw)
    (h4 : s.sync = t.sync) (h5 : s.sh = t.sh) (h6 : s.rly = t.rly) : s.st = t.st := by
  simp [State.st, State.mid, hc, h1, h2, h3, h4, h5, h6]

/-! The state after reset (70_reset_and_hazards.md R280). -/

@[simp] theorem resetWith_cfg (c : Cfg) : (State.resetWith c).cfg = c := rfl
@[simp] theorem resetWith_ct (c : Cfg) : (State.resetWith c).ct = .read := rfl
@[simp] theorem resetWith_thr (c : Cfg) : (State.resetWith c).thr = .v166 := rfl
@[simp] theorem resetWith_dw (c : Cfg) : (State.resetWith c).dw = .wet := rfl
@[simp] theorem resetWith_sync (c : Cfg) : (State.resetWith c).sync = .noSync := rfl
@[simp] theorem resetWith_sh (c : Cfg) : (State.resetWith c).sh = 0 := rfl
@[simp] theorem resetWith_rly (c : Cfg) : (State.resetWith c).rly = 0b00000 := rfl
@[simp] theorem resetWith_out (c : Cfg) : (State.resetWith c).out = Out.idle := rfl
@[simp] theorem resetWith_link (c : Cfg) : (State.resetWith c).link = [] := rfl
@[simp] theorem resetWith_txn (c : Cfg) : (State.resetWith c).txn = Txn.fresh := rfl
@[simp] theorem resetWith_inbox (c : Cfg) : (State.resetWith c).inbox = [] := rfl
@[simp] theorem resetWith_draws (c : Cfg) : (State.resetWith c).draws = 0 := rfl

end Sys2Proof.Machine
end

