-- ==== Sys2Proof/Laws/Codec.lean ====
section
/-! SUPPORT. The fields of the frame words, bit by bit (30_encoding.md R77, R78). -/

namespace Sys2Proof.Machine

open Sys2Proof

/-- Every bit of the control word belongs to one field (R77). -/
theorem controlWord_getLsbD (c : Cfg) (r : RegFile) (i : Nat) :
    (controlWord c r).getLsbD i =
      if i < 7 then r.sh.getLsbD i
      else if i = 7 then false
      else if i = 8 then (syncCode c r.sync).getLsbD 0
      else if i = 9 then (dwCode c r.dw).getLsbD 0
      else if i < 12 then (thrCode r.thr).getLsbD (i - 10)
      else if i < 14 then r.mid.getLsbD (i - 12)
      else if i < 16 then (ctCode c r.ct).getLsbD (i - 14)
      else false := by
  by_cases hi : i < 16
  · simp only [controlWord, BitVec.getLsbD_or, BitVec.getLsbD_shiftLeft, BitVec.getLsbD_setWidth]
    interval_cases i <;> simp
  · have : 16 ≤ i := by omega
    have h1 : (controlWord c r).getLsbD i = false := BitVec.getLsbD_of_ge _ _ this
    rw [h1]
    simp [show ¬ i < 7 by omega, show ¬ i = 7 by omega, show ¬ i = 8 by omega, show ¬ i = 9 by omega,
      show ¬ i < 12 by omega, show ¬ i < 14 by omega, hi]

/-- Every bit of the relay word is the constant's, zero, or a relay's (R78). -/
theorem relayWord_getLsbD (c : Cfg) (r : RegFile) (i : Nat) :
    (relayWord c r).getLsbD i =
      if i < 5 then r.rly.getLsbD i
      else if i < 8 then false
      else if i < 16 then c.relayHi.getLsbD (i - 8)
      else false := by
  by_cases hi : i < 16
  · simp only [relayWord, BitVec.getLsbD_or, BitVec.getLsbD_shiftLeft, BitVec.getLsbD_setWidth]
    interval_cases i <;> simp
  · have : 16 ≤ i := by omega
    have h1 : (relayWord c r).getLsbD i = false := BitVec.getLsbD_of_ge _ _ this
    rw [h1]
    simp [show ¬ i < 5 by omega, show ¬ i < 8 by omega, hi]

end Sys2Proof.Machine
end

