-- ==== Sys2Proof/Laws/Link.lean ====
section
/-! SUPPORT. The laws of the memory link: read after write, a write leaves every other byte alone, and every memory operation keeps the
canonical form. -/

namespace Sys2Proof.Machine

open Sys2Proof

theorem Memory.read_write (m : Memory) (a b : Nat) (v : Byte) :
    Memory.read (Memory.write m a v) b = if b = a then some v else Memory.read m b := by
  induction m with
  | nil =>
    by_cases h : a = b
    · simp [Memory.write, Memory.read, h]
    · simp [Memory.write, Memory.read, h, Ne.symm h]
  | cons p m ih =>
    obtain ⟨x, w⟩ := p
    simp only [Memory.write]
    split
    · by_cases h : b = a
      · simp [Memory.read, h]
      · simp [Memory.read, h, Ne.symm h]
    · split
      · by_cases h : b = a
        · simp [Memory.read, h]
        · have h' : a ≠ b := Ne.symm h
          have hx : x ≠ b := by omega
          simp [Memory.read, h, h', hx]
      · simp only [Memory.read, ih]
        by_cases hx : x = b
        · have : b ≠ a := by omega
          simp [hx, this]
        · simp [hx]

@[simp] theorem Memory.read_write_same (m : Memory) (a : Nat) (v : Byte) :
    Memory.read (Memory.write m a v) a = some v := by simp [Memory.read_write]

theorem Memory.read_write_other (m : Memory) {a b : Nat} (v : Byte) (h : b ≠ a) :
    Memory.read (Memory.write m a v) b = Memory.read m b := by simp [Memory.read_write, h]

/-- An address below every listed one stays below every one after a write above it. -/
theorem Memory.mem_write {m : Memory} {a : Nat} {v : Byte} {p : Host.Cell} (h : p ∈ Memory.write m a v) :
    p = (a, v) ∨ p ∈ m := by
  induction m with
  | nil => simpa [Memory.write] using h
  | cons q m ih =>
    obtain ⟨x, w⟩ := q
    simp only [Memory.write] at h
    split at h
    · simpa using h
    · split at h
      · rcases List.mem_cons.1 h with h | h
        · exact .inl h
        · exact .inr (List.mem_cons_of_mem _ h)
      · rcases List.mem_cons.1 h with h | h
        · exact .inr (h ▸ List.mem_cons_self)
        · exact (ih h).imp id (List.mem_cons_of_mem _)

theorem Memory.write_wf {m : Memory} (h : Memory.wf m) (a : Nat) (v : Byte) : Memory.wf (Memory.write m a v) := by
  induction m with
  | nil => simp [Memory.write, Memory.wf]
  | cons q m ih =>
    obtain ⟨x, w⟩ := q
    obtain ⟨hx, hm⟩ := List.pairwise_cons.1 h
    simp only [Memory.write]
    split
    case isTrue hlt =>
      refine List.pairwise_cons.2 ⟨fun p hp => ?_, h⟩
      rcases List.mem_cons.1 hp with rfl | hp
      · exact hlt
      · exact lt_trans hlt (hx p hp)
    case isFalse hnlt =>
      split
      case isTrue heq =>
        subst heq
        exact List.pairwise_cons.2 ⟨hx, hm⟩
      case isFalse hne =>
        refine List.pairwise_cons.2 ⟨fun p hp => ?_, ih hm⟩
        rcases Memory.mem_write hp with rfl | hp
        · show x < a
          omega
        · exact hx p hp

theorem Memory.writeSlot_keeps_wf {m : Memory} (h : Memory.wf m) (o : ByteOrder) (a : Nat) (v : Slot) :
    Memory.wf (Memory.writeSlot o m a v) :=
  Memory.write_wf (Memory.write_wf (Memory.write_wf (Memory.write_wf h _ _) _ _) _ _) _ _

/-- What every byte reads as after a slot write: the slot's byte within the four addresses, the old byte elsewhere. -/
theorem Memory.read_after_writeSlot (o : ByteOrder) (m : Memory) (a : Nat) (v : Slot) (b : Nat) :
    Memory.read (Memory.writeSlot o m a v) b =
      if a ≤ b ∧ b < a + 4 then some (slotByte o v (b - a)) else Memory.read m b := by
  simp only [Memory.writeSlot, Memory.read_write]
  by_cases h3 : b = a + 3
  · simp [h3]
  by_cases h2 : b = a + 2
  · simp [h2]
  by_cases h1 : b = a + 1
  · simp [h1]
  by_cases h0 : b = a
  · simp [h0]
  have : ¬ (a ≤ b ∧ b < a + 4) := by omega
  simp [h0, h1, h2, h3, this]

/-- The four bytes of a slot, put together again, are the slot. -/
theorem slotOfBytes_of_slotByte (o : ByteOrder) (v : Slot) :
    slotOfBytes o (slotByte o v 0) (slotByte o v 1) (slotByte o v 2) (slotByte o v 3) = v := by
  cases o <;>
  · apply BitVec.eq_of_getLsbD_eq
    intro i hi
    simp only [slotOfBytes, slotByte, BitVec.getLsbD_append, BitVec.getLsbD_extractLsb']
    interval_cases i <;> simp

/-- Writing command slot `k` changes what the UUT sees at position `k` only (20_memory.md R52). -/
theorem commandSlot_after_write {s t : State} {k : Nat} {v : Slot} (hc : t.cfg = s.cfg)
    (hl : t.link = Memory.writeSlot s.cfg.byteOrder s.link (cmdSlotAddr s.cfg k) v) (j : Nat) :
    Safety.commandSlot t j = if j = k then some v else Safety.commandSlot s j := by
  by_cases h : j = k
  · subst h
    simp only [Safety.commandSlot, hc, hl, Memory.read_after_writeSlot]
    simpa using slotOfBytes_of_slotByte s.cfg.byteOrder v
  · have out : ∀ b, b < 4 → Memory.read t.link (cmdSlotAddr s.cfg j + b) = Memory.read s.link (cmdSlotAddr s.cfg j + b) := by
      intro b hb
      rw [hl, Memory.read_after_writeSlot, if_neg]
      simp only [cmdSlotAddr, Config.slotBytes]
      omega
    have o0 := out 0 (by omega)
    simp only [Nat.add_zero] at o0
    simp only [Safety.commandSlot, hc, h, if_false, o0, out 1 (by omega), out 2 (by omega), out 3 (by omega)]

end Sys2Proof.Machine
end

