-- ==== Sys2Proof/Laws/Ops.lean ====
section
/-! SUPPORT. What the shared operations can do, said once: the counter update, the end of a transaction, and the forms every instruction's
meaning takes. -/

namespace Sys2Proof.Machine

open Sys2Proof

theorem nextCount_toNat (sh : BitVec 7) : (nextCount sh).toNat = (sh.toNat + 1) % 128 := by
  simp [nextCount, Config.shMod]

/-- The counter update writes `SH` only, and says how (42_dispatch.md R164). -/
theorem counterUpdate_eq (s : State) :
    counterUpdate s = { s with sh := if s.ct = .read then s.sh else if s.sync = .sync then 0 else nextCount s.sh } := by
  cases s with
  | mk cfg ct thr dw m sh rly out st cp link txn inbox draws => cases ct <;> cases m <;> rfl

@[simp] theorem counterUpdate_cfg (s : State) : (counterUpdate s).cfg = s.cfg := by rw [counterUpdate_eq]
@[simp] theorem counterUpdate_ct (s : State) : (counterUpdate s).ct = s.ct := by rw [counterUpdate_eq]
@[simp] theorem counterUpdate_thr (s : State) : (counterUpdate s).thr = s.thr := by rw [counterUpdate_eq]
@[simp] theorem counterUpdate_dw (s : State) : (counterUpdate s).dw = s.dw := by rw [counterUpdate_eq]
@[simp] theorem counterUpdate_sync (s : State) : (counterUpdate s).sync = s.sync := by rw [counterUpdate_eq]
@[simp] theorem counterUpdate_rly (s : State) : (counterUpdate s).rly = s.rly := by rw [counterUpdate_eq]
@[simp] theorem counterUpdate_out (s : State) : (counterUpdate s).out = s.out := by rw [counterUpdate_eq]
@[simp] theorem counterUpdate_statusIn (s : State) : (counterUpdate s).statusIn = s.statusIn := by rw [counterUpdate_eq]
@[simp] theorem counterUpdate_cpldIn (s : State) : (counterUpdate s).cpldIn = s.cpldIn := by rw [counterUpdate_eq]
@[simp] theorem counterUpdate_link (s : State) : (counterUpdate s).link = s.link := by rw [counterUpdate_eq]
@[simp] theorem counterUpdate_txn (s : State) : (counterUpdate s).txn = s.txn := by rw [counterUpdate_eq]
@[simp] theorem counterUpdate_inbox (s : State) : (counterUpdate s).inbox = s.inbox := by rw [counterUpdate_eq]
@[simp] theorem counterUpdate_draws (s : State) : (counterUpdate s).draws = s.draws := by rw [counterUpdate_eq]

theorem counterUpdate_sh (s : State) :
    (counterUpdate s).sh = if s.ct = .read then s.sh else if s.sync = .sync then 0 else nextCount s.sh := by
  rw [counterUpdate_eq]

/-- The mutation of each operation kind (42_dispatch.md R163): the register file before the counter update. -/
def mutated (i : Instr) (s : State) : State :=
  match i with
  | .thr17 => writeThreshold .v17 s
  | .thr33 => writeThreshold .v33 s
  | .thr84 => writeThreshold .v84 s
  | .thr166 => writeThreshold .v166 s
  | .setDry => writeDryWet .dry s
  | .setWet => writeDryWet .wet s
  | .syncOn => writeSync .sync s
  | .syncOff => writeSync .noSync s
  | .tglAA => toggleRelay .aa s
  | .tglAB => toggleRelay .ab s
  | .tglCA => toggleRelay .ca s
  | .tglCB => toggleRelay .cb s
  | .tglCC => toggleRelay .cc s
  | .rlyOn => writeRelays 0b11111 s
  | .rlyOff => writeRelays 0b00000 s
  | .qThr => asQuery .read s
  | .qRd => asQuery .read s
  | .qFull => asQuery .read s
  | .qCpld => asQuery .cpldRevisionQuery s
  | .reserved00 | .reserved17 | .reserved18 | .reserved19 | .reserved1A | .reserved1B | .reserved1C | .reserved1D
  | .reserved1E | .endMark | .mHelp | .mExit | .mDebug => s

/-- The host requests of each operation kind (R166). -/
def requestsOf (i : Instr) : Requests :=
  match i with
  | .qThr | .qRd => statusRequest
  | .qFull => fullRequest
  | .qCpld => cpldRequest
  | .thr17 | .thr33 | .thr84 | .thr166 | .setDry | .setWet | .syncOn | .syncOff | .tglAA | .tglAB | .tglCA | .tglCB
  | .tglCC | .rlyOn | .rlyOff | .reserved00 | .reserved17 | .reserved18 | .reserved19 | .reserved1A | .reserved1B
  | .reserved1C | .reserved1D | .reserved1E | .endMark | .mHelp | .mExit | .mDebug => noRequests

/-- Every dispatching kind is its mutation, the counter update and the end of a transaction. -/
theorem exec_dispatching (i : Instr) (h : isDispatching i = true) (s : State) :
    exec i s = dispatch i (requestsOf i) (mutated i s) := by
  cases i <;> first | rfl | simp [isDispatching, opkClass] at h

/-- Every other kind leaves all but the output record and the host's progress as they are. -/
theorem exec_not_dispatching (i : Instr) (h : isDispatching i = false) (s : State) :
    ∃ o : Out, exec i s = .next (setOut s o) ∧ o.frame = none ∧ o.pendingRead = false ∧ o.readCpld = false ∧
      o.resetReq = false := by
  cases i <;> first
    | exact ⟨_, rfl, rfl, rfl, rfl, rfl⟩
    | simp [isDispatching, opkClass] at h

/-- What the end of a dispatching transaction answers (R162). -/
theorem dispatch_eq (i : Instr) (q : Requests) (m : State) :
    dispatch i q m = .next (setOut (counterUpdate m)
      { err := .ok, metaCode := .none, frame := some (encodeFrame m.cfg (counterUpdate m).st),
        pendingRead := q.pendingRead, readCpld := q.readCpld, resetReq := q.resetReq, index := m.out.index,
        opk := some (encodeOpk i) }) := by
  simp [dispatch, Out.idle]

/-- The mutation writes no field but the registers. -/
theorem mutated_frame (i : Instr) (s : State) :
    (mutated i s).cfg = s.cfg ∧ (mutated i s).sh = s.sh ∧ (mutated i s).out = s.out ∧ (mutated i s).statusIn = s.statusIn ∧
      (mutated i s).cpldIn = s.cpldIn ∧ (mutated i s).link = s.link ∧ (mutated i s).txn = s.txn ∧
      (mutated i s).inbox = s.inbox ∧ (mutated i s).draws = s.draws := by
  cases i <;> exact ⟨rfl, rfl, rfl, rfl, rfl, rfl, rfl, rfl, rfl⟩

/-- Every instruction answers a next state, of one of two forms. -/
theorem exec_cases (i : Instr) (s t : State) (h : exec i s = .next t) :
    (isDispatching i = true ∧ ∃ o : Out, t = setOut (counterUpdate (mutated i s)) o ∧
        o.frame = some (encodeFrame s.cfg (counterUpdate (mutated i s)).st) ∧ o.err = .ok ∧ o.metaCode = .none ∧
        o.pendingRead = (requestsOf i).pendingRead ∧ o.readCpld = (requestsOf i).readCpld ∧
        o.resetReq = (requestsOf i).resetReq ∧ o.index = s.out.index ∧ o.opk = some (encodeOpk i)) ∨
    (isDispatching i = false ∧ ∃ o : Out, t = setOut s o ∧ o.frame = none ∧ o.pendingRead = false ∧ o.readCpld = false ∧
        o.resetReq = false) := by
  cases hd : isDispatching i with
  | true =>
    rw [exec_dispatching i hd, dispatch_eq] at h
    obtain ⟨hc, -, ho, -⟩ := mutated_frame i s
    refine .inl ⟨rfl, _, (Host.Outcome.next.inj h).symm, ?_⟩
    simp [hc, ho]
  | false =>
    obtain ⟨o, ho, hr⟩ := exec_not_dispatching i hd s
    rw [ho] at h
    exact .inr ⟨rfl, o, (Host.Outcome.next.inj h).symm, hr⟩

end Sys2Proof.Machine
end

