-- ==== Sys2Proof/Laws/PerInstr.lean ====
section
/-! SUPPORT. The family CodeClass: an operation kind's class is the one its code's range gives (30_encoding.md R91). -/

namespace Sys2Proof.Laws

open Sys2Proof

/-- The class R91 gives a code by its range. -/
def classOfCode (k : Nat) : OpkClass :=
  if k = 0 then .reserved
  else if k ≤ 0x0F then .write
  else if k ≤ 0x13 then .query
  else if k ≤ 0x16 then .metaCommand
  else if k ≤ 0x1E then .reserved
  else .sentinel

/-- The class of `i` is the class of its code (R91). -/
def CodeClass.Statement (i : Instr) : Prop := opkClass i = classOfCode (encodeOpk i).toNat

theorem CodeClass.reserved00 : CodeClass.Statement .reserved00 := rfl
theorem CodeClass.thr17 : CodeClass.Statement .thr17 := rfl
theorem CodeClass.thr33 : CodeClass.Statement .thr33 := rfl
theorem CodeClass.thr84 : CodeClass.Statement .thr84 := rfl
theorem CodeClass.thr166 : CodeClass.Statement .thr166 := rfl
theorem CodeClass.setDry : CodeClass.Statement .setDry := rfl
theorem CodeClass.setWet : CodeClass.Statement .setWet := rfl
theorem CodeClass.syncOn : CodeClass.Statement .syncOn := rfl
theorem CodeClass.syncOff : CodeClass.Statement .syncOff := rfl
theorem CodeClass.tglAA : CodeClass.Statement .tglAA := rfl
theorem CodeClass.tglAB : CodeClass.Statement .tglAB := rfl
theorem CodeClass.tglCA : CodeClass.Statement .tglCA := rfl
theorem CodeClass.tglCB : CodeClass.Statement .tglCB := rfl
theorem CodeClass.tglCC : CodeClass.Statement .tglCC := rfl
theorem CodeClass.rlyOn : CodeClass.Statement .rlyOn := rfl
theorem CodeClass.rlyOff : CodeClass.Statement .rlyOff := rfl
theorem CodeClass.qThr : CodeClass.Statement .qThr := rfl
theorem CodeClass.qRd : CodeClass.Statement .qRd := rfl
theorem CodeClass.qFull : CodeClass.Statement .qFull := rfl
theorem CodeClass.qCpld : CodeClass.Statement .qCpld := rfl
theorem CodeClass.mHelp : CodeClass.Statement .mHelp := rfl
theorem CodeClass.mExit : CodeClass.Statement .mExit := rfl
theorem CodeClass.mDebug : CodeClass.Statement .mDebug := rfl
theorem CodeClass.reserved17 : CodeClass.Statement .reserved17 := rfl
theorem CodeClass.reserved18 : CodeClass.Statement .reserved18 := rfl
theorem CodeClass.reserved19 : CodeClass.Statement .reserved19 := rfl
theorem CodeClass.reserved1A : CodeClass.Statement .reserved1A := rfl
theorem CodeClass.reserved1B : CodeClass.Statement .reserved1B := rfl
theorem CodeClass.reserved1C : CodeClass.Statement .reserved1C := rfl
theorem CodeClass.reserved1D : CodeClass.Statement .reserved1D := rfl
theorem CodeClass.reserved1E : CodeClass.Statement .reserved1E := rfl
theorem CodeClass.endMark : CodeClass.Statement .endMark := rfl

end Sys2Proof.Laws
end

