-- ==== Sys2Proof/Laws/Table.lean ====
section
/-! SUPPORT. The small lemmas of the command table's scan. -/

namespace Sys2Proof.Machine

open Sys2Proof

@[simp] theorem lookupFrom_nil (n : Nat) (line : List Byte) : lookupFrom n [] line = none := rfl

theorem lookupFrom_sentinel (n : Nat) {e : Entry} (rest : List Entry) (line : List Byte) (h : e.opk = Opk.endCode) :
    lookupFrom n (e :: rest) line = none := by simp [lookupFrom, h]

theorem lookupFrom_hit (n : Nat) {e : Entry} (rest : List Entry) (h : e.opk ≠ Opk.endCode) :
    lookupFrom n (e :: rest) e.name = some n := by simp [lookupFrom, h]

theorem lookupFrom_miss (n : Nat) {e : Entry} (rest : List Entry) {line : List Byte} (h : e.opk ≠ Opk.endCode)
    (hn : e.name ≠ line) : lookupFrom n (e :: rest) line = lookupFrom (n + 1) rest line := by
  simp [lookupFrom, h, hn]

/-- A found index is at or past where the scan began. -/
theorem lookupFrom_ge {rom : List Entry} {line : List Byte} : ∀ {n i : Nat}, lookupFrom n rom line = some i → n ≤ i := by
  induction rom with
  | nil => intro n i h; simp at h
  | cons e rest ih =>
    intro n i h
    simp only [lookupFrom] at h
    split at h
    · simp at h
    · split at h
      · simp at h; omega
      · have := ih h; omega

/-- The code of a command entry is its own, and is not the sentinel's. -/
theorem entryOpk_eq_some {rom : List Entry} {i : Nat} {k : Opk} :
    entryOpk rom i = some k ↔ ∃ e, rom[i]? = some e ∧ e.opk = k ∧ k ≠ Opk.endCode := by
  unfold entryOpk
  cases rom[i]? with
  | none => simp
  | some e =>
    by_cases h : e.opk = Opk.endCode
    · simp only [h, if_true, Option.some.injEq, exists_eq_left', reduceCtorEq, false_iff]
      rintro ⟨rfl, hk⟩
      exact hk rfl
    · simp only [h, if_false, Option.some.injEq, exists_eq_left']
      exact ⟨fun hk => ⟨hk, hk ▸ h⟩, fun hk => hk.1⟩

theorem entryOpk_eq_none {rom : List Entry} {i : Nat} :
    entryOpk rom i = none ↔ rom.length ≤ i ∨ ∃ e, rom[i]? = some e ∧ e.opk = Opk.endCode := by
  unfold entryOpk
  cases h : rom[i]? with
  | none => simpa using h
  | some e =>
    have hlt : ¬ rom.length ≤ i := by
      have := (List.getElem?_eq_some_iff.1 h).1
      omega
    by_cases hk : e.opk = Opk.endCode <;> simp [hk, hlt]

end Sys2Proof.Machine
end

