-- ==== Sys2Proof/Laws/Step.lean ====
section
/-! SUPPORT. What one event can do, said once for each kind of event: the moves of the host and of the UUT, and the commands. -/

namespace Sys2Proof.Machine

open Sys2Proof

theorem step_nil {s : State} (h : s.inbox = []) : step s = .next s := by simp [step, h]

theorem step_cons {s : State} {e : Event} {rest : List Event} (h : s.inbox = e :: rest) :
    step s = eventStep e { s with inbox := rest } := by simp [step, h]

/-- The readable form of the host's permissions. -/
theorem frameInHand_iff (s : State) : frameInHand s = true ↔ s.out.frame ≠ none ∧ s.txn.abandoned = false := by
  simp [frameInHand, Option.isSome_iff_ne_none]

theorem frameSent_iff (s : State) :
    frameSent s = true ↔ s.out.frame ≠ none ∧ s.txn.abandoned = false ∧ s.txn.written = 5 := by
  simp [frameSent, frameInHand_iff, Config.cmdWords, and_assoc]

theorem mayPulse_iff (s : State) :
    mayPulse s = true ↔ s.out.frame ≠ none ∧ s.txn.abandoned = false ∧ s.out.resetReq = true ∧ s.txn.pulsed = false ∧
      s.txn.written = 0 := by
  simp [mayPulse, frameInHand_iff, and_assoc]

theorem mayWrite_iff (s : State) (k : Nat) :
    mayWrite s k = true ↔ s.out.frame ≠ none ∧ s.txn.abandoned = false ∧ k < 5 ∧ k = s.txn.written ∧
      (s.out.resetReq = true → s.txn.pulsed = true) := by
  cases hr : s.out.resetReq <;> simp [mayWrite, frameInHand_iff, Config.cmdWords, and_assoc, hr]

theorem mayReadStatus_iff (s : State) (k : Nat) :
    mayReadStatus s k = true ↔ s.out.frame ≠ none ∧ s.txn.abandoned = false ∧ s.txn.written = 5 ∧ k < 7 ∧
      k = s.txn.statusRead.length ∧ s.cfg.delayD ≤ s.txn.waited := by
  simp [mayReadStatus, frameSent_iff, Config.statusWords, and_assoc]

theorem mayReadCpld_iff (s : State) (k : Nat) :
    mayReadCpld s k = true ↔ s.out.frame ≠ none ∧ s.txn.abandoned = false ∧ s.txn.written = 5 ∧ s.out.readCpld = true ∧
      s.txn.statusRead.length = 7 ∧ k < 2 ∧ k = s.txn.cpldRead.length := by
  simp [mayReadCpld, frameSent_iff, Config.statusWords, Config.cpldWords, and_assoc]

theorem readsDone_iff (s : State) :
    readsDone s = true ↔ s.txn.statusRead.length = 7 ∧ (s.out.readCpld = true → s.txn.cpldRead.length = 2) := by
  cases hr : s.out.readCpld <;> simp [readsDone, Config.statusWords, Config.cpldWords, hr]

theorem mayPresent_iff (s : State) :
    mayPresent s = true ↔ s.out.frame ≠ none ∧ s.txn.abandoned = false ∧ s.txn.written = 5 ∧ s.txn.statusRead.length = 7 ∧
      (s.out.readCpld = true → s.txn.cpldRead.length = 2) ∧ s.txn.presented = false := by
  simp [mayPresent, frameSent_iff, readsDone_iff, and_assoc]

theorem dutiesDone_iff (s : State) :
    dutiesDone s = true ↔ s.out.frame ≠ none ∧ s.txn.abandoned = false ∧ s.txn.written = 5 ∧
      (s.txn.presented = true ∨ s.txn.statusRead = [] ∧ s.out.pendingRead = false ∧ s.out.readCpld = false) := by
  simp [dutiesDone, frameSent_iff, and_assoc]

theorem baseAligned_iff (b : Nat) : baseAligned b = true ↔ b % 4 = 0 := by simp [baseAligned, Config.slotBytes]

/-- A list as long as a port is what the port then carries. -/
theorem portWords_toList {n : Nat} {words : List Word16} (h : words.length = n) : (portWords n words).toList = words := by
  subst h
  apply List.ext_getElem
  · simp
  · intro i h1 h2
    simp [portWords, List.getD_eq_getElem?_getD]

theorem portWords_getElem {n k : Nat} (words : List Word16) (h : k < n) : (portWords n words)[k] = words.getD k 0 := by
  simp [portWords]

/-! If a move of the host answers a next state, it was in its place, and it did this. -/

theorem pulseLink_next {s t : State} (h : pulseLink s = .next t) :
    mayPulse s = true ∧ t = { s with txn := { s.txn with pulsed := true } } := by
  unfold pulseLink at h
  split at h
  · exact ⟨‹_›, (Host.Outcome.next.inj h).symm⟩
  · cases h

theorem writeFrameWord_next {s t : State} {k : Nat} (h : writeFrameWord s k = .next t) :
    mayWrite s k = true ∧ s.cfg.cmdBase % 4 = 0 ∧
      t = { s with
        link := Memory.writeSlot s.cfg.byteOrder s.link (cmdSlotAddr s.cfg k) (slotOfWord (frameWord s k))
        txn := { s.txn with written := k + 1 } } := by
  unfold writeFrameWord at h
  split at h
  · cases h
  · split at h
    · cases h
    · rename_i hw ha
      exact ⟨by simpa using hw, by simpa [baseAligned_iff] using ha, (Host.Outcome.next.inj h).symm⟩

theorem waitTime_eq (s : State) (d : Nat) :
    waitTime s d = .next { s with
      txn := { s.txn with waited := if frameSent s then s.txn.waited + d else s.txn.waited } } := by
  unfold waitTime
  split <;> rfl

theorem readStatusSlot_next {s t : State} {k : Nat} (h : readStatusSlot s k = .next t) :
    mayReadStatus s k = true ∧ s.cfg.statusBase % 4 = 0 ∧
      t = { s with
        draws := s.draws + 1
        txn := { s.txn with
          statusRead := s.txn.statusRead ++ [wordOfSlot (readSlot s.cfg.byteOrder s.link s.draws (statusSlotAddr s.cfg k))] } } := by
  unfold readStatusSlot at h
  split at h
  · cases h
  · split at h
    · cases h
    · rename_i hw ha
      exact ⟨by simpa using hw, by simpa [baseAligned_iff] using ha, (Host.Outcome.next.inj h).symm⟩

theorem readCpldSlot_next {s t : State} {k : Nat} (h : readCpldSlot s k = .next t) :
    mayReadCpld s k = true ∧ s.cfg.cpldBase % 4 = 0 ∧
      t = { s with
        draws := s.draws + 1
        txn := { s.txn with
          cpldRead := s.txn.cpldRead ++ [wordOfSlot (readSlot s.cfg.byteOrder s.link s.draws (cpldSlotAddr s.cfg k))] } } := by
  unfold readCpldSlot at h
  split at h
  · cases h
  · split at h
    · cases h
    · rename_i hw ha
      exact ⟨by simpa using hw, by simpa [baseAligned_iff] using ha, (Host.Outcome.next.inj h).symm⟩

theorem presentWords_next {s t : State} {unasked : CpldWords} (h : presentWords unasked s = .next t) :
    mayPresent s = true ∧ t = { s with
      statusIn := portWords 7 s.txn.statusRead
      cpldIn := if s.out.readCpld then portWords 2 s.txn.cpldRead else unasked
      txn := { s.txn with presented := true } } := by
  unfold presentWords at h
  split at h
  · exact ⟨‹_›, (Host.Outcome.next.inj h).symm⟩
  · cases h

theorem giveUp_next {s t : State} (h : giveUp s = .next t) :
    s.out.frame ≠ none ∧ t = { s with txn := { s.txn with abandoned := true } } := by
  unfold giveUp at h
  split at h
  · exact ⟨Option.isSome_iff_ne_none.1 ‹_›, (Host.Outcome.next.inj h).symm⟩
  · cases h

theorem resendFrame_next {s t : State} (h : resendFrame s = .next t) :
    s.out.frame ≠ none ∧ t = { s with txn := { Txn.fresh with pulsed := s.txn.pulsed } } := by
  unfold resendFrame at h
  split at h
  · exact ⟨Option.isSome_iff_ne_none.1 ‹_›, (Host.Outcome.next.inj h).symm⟩
  · cases h

/-! A move of the host in its place answers this next state. -/

theorem pulseLink_eq {s : State} (h : mayPulse s = true) :
    pulseLink s = .next { s with txn := { s.txn with pulsed := true } } := by simp [pulseLink, h]

theorem writeFrameWord_eq {s : State} {k : Nat} (h : mayWrite s k = true) (ha : s.cfg.cmdBase % 4 = 0) :
    writeFrameWord s k = .next { s with
      link := Memory.writeSlot s.cfg.byteOrder s.link (cmdSlotAddr s.cfg k) (slotOfWord (frameWord s k))
      txn := { s.txn with written := k + 1 } } := by
  simp [writeFrameWord, h, (baseAligned_iff _).2 ha]

theorem readStatusSlot_eq {s : State} {k : Nat} (h : mayReadStatus s k = true) (ha : s.cfg.statusBase % 4 = 0) :
    readStatusSlot s k = .next { s with
      draws := s.draws + 1
      txn := { s.txn with
        statusRead := s.txn.statusRead ++ [wordOfSlot (readSlot s.cfg.byteOrder s.link s.draws (statusSlotAddr s.cfg k))] } } := by
  simp [readStatusSlot, h, (baseAligned_iff _).2 ha]

theorem readCpldSlot_eq {s : State} {k : Nat} (h : mayReadCpld s k = true) (ha : s.cfg.cpldBase % 4 = 0) :
    readCpldSlot s k = .next { s with
      draws := s.draws + 1
      txn := { s.txn with
        cpldRead := s.txn.cpldRead ++ [wordOfSlot (readSlot s.cfg.byteOrder s.link s.draws (cpldSlotAddr s.cfg k))] } } := by
  simp [readCpldSlot, h, (baseAligned_iff _).2 ha]

theorem presentWords_eq {s : State} (h : mayPresent s = true) (unasked : CpldWords) :
    presentWords unasked s = .next { s with
      statusIn := portWords 7 s.txn.statusRead
      cpldIn := if s.out.readCpld then portWords 2 s.txn.cpldRead else unasked
      txn := { s.txn with presented := true } } := by simp [presentWords, h]

theorem giveUp_eq {s : State} (h : s.out.frame ≠ none) :
    giveUp s = .next { s with txn := { s.txn with abandoned := true } } := by
  simp [giveUp, Option.isSome_iff_ne_none.2 h]

theorem resendFrame_eq {s : State} (h : s.out.frame ≠ none) :
    resendFrame s = .next { s with txn := { Txn.fresh with pulsed := s.txn.pulsed } } := by
  simp [resendFrame, Option.isSome_iff_ne_none.2 h]

/-- A raised error leaves the record and the host's progress new, and nothing else (60_exceptions.md R250). -/
theorem raise_eq (e : Err) (i : Option Nat) (k : Option Opk) (s : State) :
    raise e i k s = .next (setOut s { Out.idle with err := e, index := i, opk := k }) := rfl

/-- `Apply` answers an error with the state unchanged, or what the decoded entry does (42_dispatch.md R162). -/
theorem applyIndex_next {s t : State} {i : Nat} (h : applyIndex i s = .next t) :
    (entryOpk s.cfg.cmdRom i = none ∧ t = setOut s { Out.idle with err := .badIndex }) ∨
    ∃ k, entryOpk s.cfg.cmdRom i = some k ∧ exec (decodeOpk k) (fetched i k s) = .next t := by
  unfold applyIndex at h
  split at h
  · exact .inl ⟨‹_›, (Host.Outcome.next.inj h).symm⟩
  · exact .inr ⟨_, ‹_›, h⟩

/-- `Step` answers NOTFOUND with the state unchanged, or what `Apply` does at the index found (R161). -/
theorem applyLine_next {s t : State} {line : List Byte} (h : applyLine line s = .next t) :
    (lookup s.cfg.cmdRom line = none ∧ t = setOut s { Out.idle with err := .notFound }) ∨
    ∃ i, lookup s.cfg.cmdRom line = some i ∧ applyIndex i s = .next t := by
  unfold applyLine at h
  split at h
  · exact .inl ⟨‹_›, (Host.Outcome.next.inj h).symm⟩
  · exact .inr ⟨_, ‹_›, h⟩

theorem whenReady_next {s t : State} {o : Outcome} (h : whenReady s o = .next t) : commandReady s = true ∧ o = .next t := by
  unfold whenReady at h
  split at h
  · exact ⟨‹_›, h⟩
  · cases h

/-- What a command that answers a next state does: an error result that leaves all but the record, or one instruction. -/
theorem command_next {s t : State} {line : List Byte} {i : Nat}
    (h : applyLine line s = .next t ∨ applyIndex i s = .next t) :
    (∃ e, e ≠ Err.ok ∧ t = setOut s { Out.idle with err := e }) ∨
      ∃ j k, entryOpk s.cfg.cmdRom j = some k ∧ exec (decodeOpk k) (fetched j k s) = .next t := by
  have index_case : ∀ j, applyIndex j s = .next t →
      (∃ e, e ≠ Err.ok ∧ t = setOut s { Out.idle with err := e }) ∨
        ∃ j k, entryOpk s.cfg.cmdRom j = some k ∧ exec (decodeOpk k) (fetched j k s) = .next t := by
    intro j hj
    rcases applyIndex_next hj with ⟨-, ht⟩ | ⟨k, hk, ht⟩
    · exact .inl ⟨.badIndex, by simp, ht⟩
    · exact .inr ⟨j, k, hk, ht⟩
  rcases h with h | h
  · rcases applyLine_next h with ⟨-, ht⟩ | ⟨j, -, hj⟩
    · exact .inl ⟨.notFound, by simp, ht⟩
    · exact index_case j hj
  · exact index_case i h

/-! Runs of the machine (Host.Core.run), one step at a time. -/

@[simp] theorem run_zero (s : State) : Host.Core.run Sys2Proof.core 0 s = .next s := rfl

theorem run_of_step {s t : State} (h : step s = .next t) (n : Nat) :
    Host.Core.run Sys2Proof.core (n + 1) s = Host.Core.run Sys2Proof.core n t := by
  have hc : Sys2Proof.core.step s = .next t := h
  simp only [Host.Core.run, hc]

theorem run_of_event {s t : State} {e : Event} {rest : List Event} (hi : s.inbox = e :: rest)
    (h : eventStep e { s with inbox := rest } = .next t) (n : Nat) :
    Host.Core.run Sys2Proof.core (n + 1) s = Host.Core.run Sys2Proof.core n t :=
  run_of_step ((step_cons hi).trans h) n

/-- Everything one step can do. -/
theorem step_cases {s t : State} (h : step s = .next t) :
    (s.inbox = [] ∧ t = s) ∨
    ∃ e rest, s.inbox = e :: rest ∧ eventStep e { s with inbox := rest } = .next t := by
  cases hi : s.inbox with
  | nil =>
    rw [step_nil hi] at h
    exact .inl ⟨rfl, (Host.Outcome.next.inj h).symm⟩
  | cons e rest =>
    rw [step_cons hi] at h
    exact .inr ⟨e, rest, rfl, h⟩

end Sys2Proof.Machine
end

