-- ==== Sys2Proof/Tests/Slice0.lean ====
section
/-! SUPPORT. Tests. The expected values are those of spec/95_test_vectors.md (derived there from the rules, or examples of the source), of the
encoding column of spec/opcode_table.json, or worked by hand from the rule a test cites. The last part shows, for each statement with hypotheses,
values that meet them together. -/

namespace Sys2Proof.Tests

open Sys2Proof Sys2Proof.Machine Sys2Proof.Safety

/-! ## The configurations of 95_test_vectors.md section 0; bases and delay are this file's -/

/-- TC0. -/
def tc0 : Cfg where
  header := 0x1234
  footer := 0xABCD
  relayHi := 0x5A
  moduleId := 0b01
  ctWrite := 0b01
  ctRead := 0b10
  ctCpld := 0b11
  dwWet := 1
  syncSync := 1
  pFe := 0
  pCe := 1
  pRr := 2
  pCoil := 3
  cmdRom := Config.defaultRom
  lineMax := 16
  cmdBase := 0x100
  statusBase := 0x200
  cpldBase := 0x300
  byteOrder := .little
  delayD := 3

/-- TC1. -/
def tc1 : Cfg :=
  { tc0 with header := 0x0000, footer := 0xFFFF, relayHi := 0xFF, moduleId := 0b10, ctCpld := 0b00, dwWet := 0, syncSync := 0 }

/-- The registers under TC0. -/
def regs (ct : CmdType) (thr : Threshold) (dw : DryWet) (m : SyncMode) (sh : BitVec 7) (rly : BitVec 5) : RegFile :=
  { ct := ct, mid := 0b01, thr := thr, dw := dw, sync := m, sh := sh, rly := rly }

/-- A state under TC0 with the given registers, both ports at zero. -/
def stateOf (r : RegFile) : State :=
  { State.resetWith tc0 with
    ct := r.ct
    thr := r.thr
    dw := r.dw
    sync := r.sync
    sh := r.sh
    rly := r.rly
    statusIn := Vector.replicate 7 0
    cpldIn := Vector.replicate 2 0 }

def s0 : State := stateOf (regs .read .v166 .wet .noSync 0 0b00000)
def s1 : State := stateOf (regs .write .v17 .dry .noSync 126 0b10101)
def s2 : State := stateOf (regs .read .v33 .wet .sync 0 0b01010)
def s3 : State := stateOf (regs .write .v84 .dry .noSync 127 0b11111)

/-- The state with one move to come. -/
def feed (s : State) (e : Event) : State := { s with inbox := [e] }

/-- The state under another table. -/
def withRom (s : State) (rom : List Entry) : State := { s with cfg := { s.cfg with cmdRom := rom } }

/-- The table of rows Q13 to Q16. -/
def withRelayQuery (s : State) : State :=
  withRom s (Config.defaultRom.dropLast ++ [⟨[0x72, 0x65, 0x6C, 0x61, 0x79, 0x5F, 0x3F], 0x11⟩, ⟨[], 0x1F⟩])

/-- The table of rows X12 to X14, which is not well formed. -/
def badTable : List Entry :=
  [⟨[0x72, 0x65, 0x6C, 0x61, 0x79, 0x5F, 0x61, 0x61], 0x09⟩, ⟨[0x62, 0x61, 0x64], 0x00⟩, ⟨[0x62, 0x61, 0x64, 0x32], 0x17⟩, ⟨[], 0x1F⟩]

def withBadTable (s : State) : State := withRom s badTable

/-- The configuration of rows Q17 and Q18. -/
def lowCpldCode (s : State) : State := { s with cfg := { s.cfg with ctCpld := 0b00 } }

/-- Words 1 to 3 of a frame whose first and last words are TC0's; none for any other frame. -/
def middle (f : Frame) : Option (Word16 × Word16 × Word16) :=
  if f.header = 0x1234 ∧ f.footer = 0xABCD then some (f.control, f.relay, f.inverse) else none

/-- A row of the tables of section 2: error, meta code, frame words 1 to 3, the three requests, the registers after. -/
structure Row where
  err : Err
  metaCode : MetaCode
  words : Option (Word16 × Word16 × Word16)
  requests : Bool × Bool × Bool
  after : RegFile
deriving DecidableEq, Repr

/-- The row a next outcome shows. -/
def seen (o : Outcome) : Option Row :=
  match o with
  | .next t => some ⟨t.out.err, t.out.metaCode, t.out.frame.bind middle,
      (t.out.pendingRead, t.out.readCpld, t.out.resetReq), t.st⟩
  | .fault _ => none
  | .refused _ => none

/-- The recorded index and code (R160). -/
def recorded (o : Outcome) : Option (Option Nat × Option Opk) :=
  match o with
  | .next t => some (t.out.index, t.out.opk)
  | .fault _ => none
  | .refused _ => none

/-- The state a next outcome holds. -/
def after (o : Outcome) : State :=
  match o with
  | .next t => t
  | .fault _ => s0
  | .refused _ => s0

/-- A fault, if that is the outcome. -/
def faultOf (o : Outcome) : Option Fault :=
  match o with
  | .next _ => none
  | .fault f => some f
  | .refused _ => none

/-- A refusal, if that is the outcome. -/
def refusalOf (o : Outcome) : Option Refusal :=
  match o with
  | .next _ => none
  | .fault _ => none
  | .refused r => some r

/-! ## Well-formedness: one ill-formed term for each check -/

theorem test_tc0_is_wf : tc0.wf = true := by decide
theorem test_tc1_is_wf : tc1.wf = true := by decide

/-- R144 (a): a table without its sentinel. -/
theorem test_sentinelLast_refuses : Rom.sentinelLast [⟨[0x78], 0x01⟩] = false := by decide
/-- R144 (b): an empty name, and the code END, before the last entry. -/
theorem test_entriesNamed_refuses :
    Rom.entriesNamed [⟨[], 0x01⟩, ⟨[], 0x1F⟩] = false ∧ Rom.entriesNamed [⟨[0x78], 0x1F⟩, ⟨[], 0x1F⟩] = false := by decide
/-- R144 (c): the same name twice. -/
theorem test_namesDistinct_refuses : Rom.namesDistinct [⟨[0x78], 0x01⟩, ⟨[0x78], 0x02⟩, ⟨[], 0x1F⟩] = false := by decide
/-- R144 (d): the lowest and the highest reserved code. -/
theorem test_noReserved_refuses :
    Rom.noReserved [⟨[0x78], 0x00⟩, ⟨[], 0x1F⟩] = false ∧ Rom.noReserved [⟨[0x78], 0x1E⟩, ⟨[], 0x1F⟩] = false ∧
      Rom.noReserved badTable = false := by decide
/-- R144 (e): a name one byte too long, one with CR, one with LF. -/
theorem test_namesFit_refuses :
    Rom.namesFit 2 [⟨[0x78, 0x78, 0x78], 0x01⟩] = false ∧ Rom.namesFit 16 [⟨[0x78, 0x0D], 0x01⟩] = false ∧
      Rom.namesFit 16 [⟨[0x0A], 0x01⟩] = false := by decide
theorem test_romWf_refuses : Rom.wf 16 badTable = false ∧ Rom.wf 9 Config.defaultRom = false := by decide
/-- R5, R70: equal codes, and a `CT_CPLD` outside its two values. -/
theorem test_codesWf_refuses :
    Cfg.codesWf { tc0 with ctWrite := 0b11 } = false ∧ Cfg.codesWf { tc0 with ctWrite := 0b00, ctCpld := 0b01 } = false := by decide
/-- R83: two flags at one place, and a flag on bit 8 and on bit 11. -/
theorem test_flagsWf_refuses :
    Cfg.flagsWf { tc0 with pFe := 3 } = false ∧ Cfg.flagsWf { tc0 with pCe := 8 } = false ∧
      Cfg.flagsWf { tc0 with pRr := 11 } = false := by decide
theorem test_lineMaxWf_refuses : Cfg.lineMaxWf { tc0 with lineMax := 0 } = false := by decide
/-- R55: each base unaligned. -/
theorem test_aligned_refuses :
    Cfg.aligned { tc0 with cmdBase := 0x102 } = false ∧ Cfg.aligned { tc0 with statusBase := 0x201 } = false ∧
      Cfg.aligned { tc0 with cpldBase := 0x303 } = false := by decide
/-- 90_conflicts.md C5: the CPLD pair at the last status slot. -/
theorem test_cpldApart_refuses : Cfg.cpldApart { tc0 with cpldBase := 0x200 + 16 } = false := by decide
theorem test_boot_refuses_bad_table : refusalOf (boot { tc0 with cmdRom := badTable }) = some .badConfig := by decide

/-! ## Decoding: the words of spec/opcode_table.json's encoding column, written out -/

theorem test_decode_reserved :
    decode [0b00000000] = .ok (.reserved00, []) ∧ decode [0b00010111] = .ok (.reserved17, []) ∧
    decode [0b00011000] = .ok (.reserved18, []) ∧ decode [0b00011001] = .ok (.reserved19, []) ∧
    decode [0b00011010] = .ok (.reserved1A, []) ∧ decode [0b00011011] = .ok (.reserved1B, []) ∧
    decode [0b00011100] = .ok (.reserved1C, []) ∧ decode [0b00011101] = .ok (.reserved1D, []) ∧
    decode [0b00011110] = .ok (.reserved1E, []) := ⟨rfl, rfl, rfl, rfl, rfl, rfl, rfl, rfl, rfl⟩
theorem test_decode_threshold_and_inputs :
    decode [0b00000001] = .ok (.thr17, []) ∧ decode [0b00000010] = .ok (.thr33, []) ∧
    decode [0b00000011] = .ok (.thr84, []) ∧ decode [0b00000100] = .ok (.thr166, []) ∧
    decode [0b00000101] = .ok (.setDry, []) ∧ decode [0b00000110] = .ok (.setWet, []) ∧
    decode [0b00000111] = .ok (.syncOn, []) ∧ decode [0b00001000] = .ok (.syncOff, []) :=
  ⟨rfl, rfl, rfl, rfl, rfl, rfl, rfl, rfl⟩
theorem test_decode_relays :
    decode [0b00001001] = .ok (.tglAA, []) ∧ decode [0b00001010] = .ok (.tglAB, []) ∧
    decode [0b00001011] = .ok (.tglCA, []) ∧ decode [0b00001100] = .ok (.tglCB, []) ∧
    decode [0b00001101] = .ok (.tglCC, []) ∧ decode [0b00001110] = .ok (.rlyOn, []) ∧
    decode [0b00001111] = .ok (.rlyOff, []) := ⟨rfl, rfl, rfl, rfl, rfl, rfl, rfl⟩
theorem test_decode_queries_meta_end :
    decode [0b00010000] = .ok (.qThr, []) ∧ decode [0b00010001] = .ok (.qRd, []) ∧
    decode [0b00010010] = .ok (.qFull, []) ∧ decode [0b00010011] = .ok (.qCpld, []) ∧
    decode [0b00010100] = .ok (.mHelp, []) ∧ decode [0b00010101] = .ok (.mExit, []) ∧
    decode [0b00010110] = .ok (.mDebug, []) ∧ decode [0b00011111] = .ok (.endMark, []) :=
  ⟨rfl, rfl, rfl, rfl, rfl, rfl, rfl, rfl⟩
theorem test_decode_errors :
    decode [] = .error .noByte ∧ decode [0x20, 0x01] = .error (.notOpk5 0x20) ∧ decode [0xFF] = .error (.notOpk5 0xFF) :=
  ⟨rfl, rfl, rfl⟩
theorem test_decodeTableWord :
    decodeTableWord 8 0x13 = some .qCpld ∧ decodeTableWord 8 0x1F = some .endMark ∧ decodeTableWord 8 0x20 = none ∧
      decodeTableWord 8 0x101 = none ∧ decodeTableWord 0 0x01 = none := ⟨rfl, rfl, rfl, rfl, rfl⟩
/-- The host's placement runs the word, from the reset state and from another. -/
theorem test_withFetchWord :
    recorded (step (State.reset.withFetchWord 8 0x07)) = some (some 0, some 0x07) ∧
      (after (step (s1.withFetchWord 8 0x0F))).rly = 0b00000 := by decide

/-! ## The frame codec (95_test_vectors.md 1, 2.1, 2.2) -/

theorem test_encode_tc0 :
    frameWords (encodeFrame tc0 s0.st) = [0x1234, 0x9200, 0x5A00, 0xA5FF, 0xABCD] ∧
    frameWords (encodeFrame tc0 (regs .write .v17 .dry .sync 127 0b11111)) = [0x1234, 0x5D7F, 0x5A1F, 0xA5E0, 0xABCD] ∧
    frameWords (encodeFrame tc0 (regs .cpldRevisionQuery .v84 .wet .noSync 64 0b10000)) = [0x1234, 0xDA40, 0x5A10, 0xA5EF, 0xABCD] ∧
    frameWords (encodeFrame tc0 (regs .write .v33 .wet .noSync 85 0b01010)) = [0x1234, 0x5655, 0x5A0A, 0xA5F5, 0xABCD] := by decide
theorem test_encode_tc1 :
    frameWords (encodeFrame tc1 { s0.st with mid := 0b10 }) = [0x0000, 0xA100, 0xFF00, 0x00FF, 0xFFFF] ∧
    frameWords (encodeFrame tc1 { regs .write .v17 .dry .sync 127 0b11111 with mid := 0b10 }) =
      [0x0000, 0x6E7F, 0xFF1F, 0x00E0, 0xFFFF] ∧
    frameWords (encodeFrame tc1 { regs .cpldRevisionQuery .v166 .wet .noSync 1 0b00000 with mid := 0b10 }) =
      [0x0000, 0x2101, 0xFF00, 0x00FF, 0xFFFF] := by decide

/-- The fields of word 1: readbacks and flags. -/
structure Word1 where
  thr : Threshold
  dw : DryWet
  sync : SyncMode
  flags : Bool × Bool × Bool × Bool
deriving DecidableEq, Repr

/-- A status frame whose only word not 0 is word 1, decoded. -/
def word1 (c : Cfg) (w : Word16) : Word1 :=
  let d := decodeStatus c #v[0, w, 0, 0, 0, 0, 0] #v[0, 0]
  ⟨d.thrRb, d.dwRb, d.syncRb, (d.frameErr, d.cmdErr, d.relayRail, d.coilErr)⟩

theorem test_decode_word1_readbacks :
    word1 tc0 0x0000 = ⟨.v166, .dry, .noSync, (false, false, false, false)⟩ ∧
    word1 tc0 0x0400 = ⟨.v33, .dry, .noSync, (false, false, false, false)⟩ ∧
    word1 tc0 0x0800 = ⟨.v84, .dry, .noSync, (false, false, false, false)⟩ ∧
    word1 tc0 0x0C00 = ⟨.v17, .dry, .noSync, (false, false, false, false)⟩ ∧
    word1 tc0 0x0200 = ⟨.v166, .wet, .noSync, (false, false, false, false)⟩ ∧
    word1 tc0 0x0100 = ⟨.v166, .dry, .sync, (false, false, false, false)⟩ := by decide
theorem test_decode_word1_flags :
    word1 tc0 0xF3FF = ⟨.v166, .wet, .sync, (true, true, true, true)⟩ ∧
    word1 tc0 0x0001 = ⟨.v166, .dry, .noSync, (true, false, false, false)⟩ ∧
    word1 tc0 0x0002 = ⟨.v166, .dry, .noSync, (false, true, false, false)⟩ ∧
    word1 tc0 0x0004 = ⟨.v166, .dry, .noSync, (false, false, true, false)⟩ ∧
    word1 tc0 0x0008 = ⟨.v166, .dry, .noSync, (false, false, false, true)⟩ ∧
    word1 tc1 0x0000 = ⟨.v166, .wet, .sync, (false, false, false, false)⟩ ∧
    word1 tc1 0x0300 = ⟨.v166, .dry, .noSync, (false, false, false, false)⟩ := by decide
theorem test_decode_whole_frame :
    decodeStatus tc0 #v[0xBEEF, 0x0000, 0xFFFF, 0x00FF, 0x1111, 0x2222, 0x3333] #v[0x1231, 0x2025] =
      { general := 0xBEEF, frameErr := false, cmdErr := false, relayRail := false, coilErr := false, thrRb := .v166, dwRb := .dry,
        syncRb := .noSync, relaysRb := 0b11111, inputs := 0x7F, cpldMd := 0x1231, cpldYr := 0x2025 } := by decide
/-- 95_test_vectors.md L1.7. -/
theorem test_integrity : integrityOk 0x5A1F 0xA5E0 = true ∧ integrityOk 0x5A00 0xA5FE = false := by decide

/-! ## Lookup (95_test_vectors.md 2.3) -/

/-- `relay_cc`, `debug`, the prefix `relay_c`, and the sentinel's own name. -/
theorem test_lookup :
    lookup Config.defaultRom [0x72, 0x65, 0x6C, 0x61, 0x79, 0x5F, 0x63, 0x63] = some 12 ∧
    lookup Config.defaultRom [0x64, 0x65, 0x62, 0x75, 0x67] = some 20 ∧
    lookup Config.defaultRom [0x72, 0x65, 0x6C, 0x61, 0x79, 0x5F, 0x63] = none ∧
    lookup Config.defaultRom [] = none := by decide

/-! ## One step for each instruction and error: the rows of 95_test_vectors.md 2.4 to 2.7 -/

/-- 95_test_vectors.md W1. -/
theorem test_thr17_W1 :
    seen (step (feed s0 (.line [0x74, 0x68, 0x72, 0x65, 0x73, 0x68, 0x5F, 0x31, 0x37]))) =
      some ⟨.ok, .none, some (0x5E01, 0x5A00, 0xA5FF), (false, false, false),
        regs .write .v17 .wet .noSync 1 0b00000⟩ := by decide

/-- 95_test_vectors.md W4. -/
theorem test_thr17_W4 :
    seen (step (feed s3 (.index 0))) =
      some ⟨.ok, .none, some (0x5C00, 0x5A1F, 0xA5E0), (false, false, false),
        regs .write .v17 .dry .noSync 0 0b11111⟩ := by decide

/-- 95_test_vectors.md W6. -/
theorem test_thr33_W6 :
    seen (step (feed s1 (.line [0x74, 0x68, 0x72, 0x65, 0x73, 0x68, 0x5F, 0x33, 0x33]))) =
      some ⟨.ok, .none, some (0x547F, 0x5A15, 0xA5EA), (false, false, false),
        regs .write .v33 .dry .noSync 127 0b10101⟩ := by decide

/-- 95_test_vectors.md W7. -/
theorem test_thr33_W7 :
    seen (step (feed s2 (.index 1))) =
      some ⟨.ok, .none, some (0x5700, 0x5A0A, 0xA5F5), (false, false, false),
        regs .write .v33 .wet .sync 0 0b01010⟩ := by decide

/-- 95_test_vectors.md W9. -/
theorem test_thr84_W9 :
    seen (step (feed s0 (.line [0x74, 0x68, 0x72, 0x65, 0x73, 0x68, 0x5F, 0x38, 0x34]))) =
      some ⟨.ok, .none, some (0x5A01, 0x5A00, 0xA5FF), (false, false, false),
        regs .write .v84 .wet .noSync 1 0b00000⟩ := by decide

/-- 95_test_vectors.md W11. -/
theorem test_thr84_W11 :
    seen (step (feed s2 (.index 2))) =
      some ⟨.ok, .none, some (0x5B00, 0x5A0A, 0xA5F5), (false, false, false),
        regs .write .v84 .wet .sync 0 0b01010⟩ := by decide

/-- 95_test_vectors.md W14. -/
theorem test_thr166_W14 :
    seen (step (feed s1 (.line [0x74, 0x68, 0x72, 0x65, 0x73, 0x68, 0x5F, 0x31, 0x36, 0x36]))) =
      some ⟨.ok, .none, some (0x507F, 0x5A15, 0xA5EA), (false, false, false),
        regs .write .v166 .dry .noSync 127 0b10101⟩ := by decide

/-- 95_test_vectors.md W16. -/
theorem test_thr166_W16 :
    seen (step (feed s3 (.index 3))) =
      some ⟨.ok, .none, some (0x5000, 0x5A1F, 0xA5E0), (false, false, false),
        regs .write .v166 .dry .noSync 0 0b11111⟩ := by decide

/-- 95_test_vectors.md W17. -/
theorem test_setDry_W17 :
    seen (step (feed s0 (.line [0x64, 0x72, 0x79]))) =
      some ⟨.ok, .none, some (0x5001, 0x5A00, 0xA5FF), (false, false, false),
        regs .write .v166 .dry .noSync 1 0b00000⟩ := by decide

/-- 95_test_vectors.md W19. -/
theorem test_setDry_W19 :
    seen (step (feed s2 (.index 4))) =
      some ⟨.ok, .none, some (0x5500, 0x5A0A, 0xA5F5), (false, false, false),
        regs .write .v33 .dry .sync 0 0b01010⟩ := by decide

/-- 95_test_vectors.md W22. -/
theorem test_setWet_W22 :
    seen (step (feed s1 (.line [0x77, 0x65, 0x74]))) =
      some ⟨.ok, .none, some (0x5E7F, 0x5A15, 0xA5EA), (false, false, false),
        regs .write .v17 .wet .noSync 127 0b10101⟩ := by decide

/-- 95_test_vectors.md W24. -/
theorem test_setWet_W24 :
    seen (step (feed s3 (.index 5))) =
      some ⟨.ok, .none, some (0x5A00, 0x5A1F, 0xA5E0), (false, false, false),
        regs .write .v84 .wet .noSync 0 0b11111⟩ := by decide

/-- 95_test_vectors.md W26. -/
theorem test_syncOn_W26 :
    seen (step (feed s1 (.line [0x73, 0x79, 0x6E, 0x63]))) =
      some ⟨.ok, .none, some (0x5D00, 0x5A15, 0xA5EA), (false, false, false),
        regs .write .v17 .dry .sync 0 0b10101⟩ := by decide

/-- 95_test_vectors.md W28. -/
theorem test_syncOn_W28 :
    seen (step (feed s3 (.index 6))) =
      some ⟨.ok, .none, some (0x5900, 0x5A1F, 0xA5E0), (false, false, false),
        regs .write .v84 .dry .sync 0 0b11111⟩ := by decide

/-- 95_test_vectors.md W31. -/
theorem test_syncOff_W31 :
    seen (step (feed s2 (.line [0x6E, 0x6F, 0x73, 0x79, 0x6E, 0x63]))) =
      some ⟨.ok, .none, some (0x5601, 0x5A0A, 0xA5F5), (false, false, false),
        regs .write .v33 .wet .noSync 1 0b01010⟩ := by decide

/-- 95_test_vectors.md W32. -/
theorem test_syncOff_W32 :
    seen (step (feed s3 (.index 7))) =
      some ⟨.ok, .none, some (0x5800, 0x5A1F, 0xA5E0), (false, false, false),
        regs .write .v84 .dry .noSync 0 0b11111⟩ := by decide

/-- 95_test_vectors.md W34. -/
theorem test_tglAA_W34 :
    seen (step (feed s1 (.line [0x72, 0x65, 0x6C, 0x61, 0x79, 0x5F, 0x61, 0x61]))) =
      some ⟨.ok, .none, some (0x5C7F, 0x5A14, 0xA5EB), (false, false, false),
        regs .write .v17 .dry .noSync 127 0b10100⟩ := by decide

/-- 95_test_vectors.md W35. -/
theorem test_tglAA_W35 :
    seen (step (feed s2 (.index 8))) =
      some ⟨.ok, .none, some (0x5700, 0x5A0B, 0xA5F4), (false, false, false),
        regs .write .v33 .wet .sync 0 0b01011⟩ := by decide

/-- 95_test_vectors.md W37. -/
theorem test_tglAB_W37 :
    seen (step (feed s0 (.line [0x72, 0x65, 0x6C, 0x61, 0x79, 0x5F, 0x61, 0x62]))) =
      some ⟨.ok, .none, some (0x5201, 0x5A02, 0xA5FD), (false, false, false),
        regs .write .v166 .wet .noSync 1 0b00010⟩ := by decide

/-- 95_test_vectors.md W40. -/
theorem test_tglAB_W40 :
    seen (step (feed s3 (.index 9))) =
      some ⟨.ok, .none, some (0x5800, 0x5A1D, 0xA5E2), (false, false, false),
        regs .write .v84 .dry .noSync 0 0b11101⟩ := by decide

/-- 95_test_vectors.md W42. -/
theorem test_tglCA_W42 :
    seen (step (feed s1 (.line [0x72, 0x65, 0x6C, 0x61, 0x79, 0x5F, 0x63, 0x61]))) =
      some ⟨.ok, .none, some (0x5C7F, 0x5A11, 0xA5EE), (false, false, false),
        regs .write .v17 .dry .noSync 127 0b10001⟩ := by decide

/-- 95_test_vectors.md W43. -/
theorem test_tglCA_W43 :
    seen (step (feed s2 (.index 10))) =
      some ⟨.ok, .none, some (0x5700, 0x5A0E, 0xA5F1), (false, false, false),
        regs .write .v33 .wet .sync 0 0b01110⟩ := by decide

/-- 95_test_vectors.md W47. -/
theorem test_tglCB_W47 :
    seen (step (feed s2 (.line [0x72, 0x65, 0x6C, 0x61, 0x79, 0x5F, 0x63, 0x62]))) =
      some ⟨.ok, .none, some (0x5700, 0x5A02, 0xA5FD), (false, false, false),
        regs .write .v33 .wet .sync 0 0b00010⟩ := by decide

/-- 95_test_vectors.md W48. -/
theorem test_tglCB_W48 :
    seen (step (feed s3 (.index 11))) =
      some ⟨.ok, .none, some (0x5800, 0x5A17, 0xA5E8), (false, false, false),
        regs .write .v84 .dry .noSync 0 0b10111⟩ := by decide

/-- 95_test_vectors.md W49. -/
theorem test_tglCC_W49 :
    seen (step (feed s0 (.line [0x72, 0x65, 0x6C, 0x61, 0x79, 0x5F, 0x63, 0x63]))) =
      some ⟨.ok, .none, some (0x5201, 0x5A10, 0xA5EF), (false, false, false),
        regs .write .v166 .wet .noSync 1 0b10000⟩ := by decide

/-- 95_test_vectors.md W50. -/
theorem test_tglCC_W50 :
    seen (step (feed s1 (.index 12))) =
      some ⟨.ok, .none, some (0x5C7F, 0x5A05, 0xA5FA), (false, false, false),
        regs .write .v17 .dry .noSync 127 0b00101⟩ := by decide

/-- 95_test_vectors.md W54. -/
theorem test_rlyOn_W54 :
    seen (step (feed s1 (.line [0x72, 0x65, 0x6C, 0x61, 0x79, 0x73, 0x5F, 0x6F, 0x6E]))) =
      some ⟨.ok, .none, some (0x5C7F, 0x5A1F, 0xA5E0), (false, false, false),
        regs .write .v17 .dry .noSync 127 0b11111⟩ := by decide

/-- 95_test_vectors.md W55. -/
theorem test_rlyOn_W55 :
    seen (step (feed s2 (.index 13))) =
      some ⟨.ok, .none, some (0x5700, 0x5A1F, 0xA5E0), (false, false, false),
        regs .write .v33 .wet .sync 0 0b11111⟩ := by decide

/-- 95_test_vectors.md W59. -/
theorem test_rlyOff_W59 :
    seen (step (feed s2 (.line [0x72, 0x65, 0x6C, 0x61, 0x79, 0x73, 0x5F, 0x6F, 0x66, 0x66]))) =
      some ⟨.ok, .none, some (0x5700, 0x5A00, 0xA5FF), (false, false, false),
        regs .write .v33 .wet .sync 0 0b00000⟩ := by decide

/-- 95_test_vectors.md W60. -/
theorem test_rlyOff_W60 :
    seen (step (feed s3 (.index 14))) =
      some ⟨.ok, .none, some (0x5800, 0x5A00, 0xA5FF), (false, false, false),
        regs .write .v84 .dry .noSync 0 0b00000⟩ := by decide

/-- 95_test_vectors.md Q2. -/
theorem test_qThr_Q2 :
    seen (step (feed s1 (.line [0x74, 0x68, 0x72, 0x65, 0x73, 0x68, 0x5F, 0x3F]))) =
      some ⟨.ok, .none, some (0x9C7E, 0x5A15, 0xA5EA), (true, false, false),
        regs .read .v17 .dry .noSync 126 0b10101⟩ := by decide

/-- 95_test_vectors.md Q3. -/
theorem test_qThr_Q3 :
    seen (step (feed s2 (.index 15))) =
      some ⟨.ok, .none, some (0x9700, 0x5A0A, 0xA5F5), (true, false, false),
        regs .read .v33 .wet .sync 0 0b01010⟩ := by decide

/-- 95_test_vectors.md Q6. -/
theorem test_qFull_Q6 :
    seen (step (feed s1 (.line [0x73, 0x74, 0x61, 0x74, 0x75, 0x73, 0x3F]))) =
      some ⟨.ok, .none, some (0x9C7E, 0x5A15, 0xA5EA), (true, true, false),
        regs .read .v17 .dry .noSync 126 0b10101⟩ := by decide

/-- 95_test_vectors.md Q8. -/
theorem test_qFull_Q8 :
    seen (step (feed s3 (.index 16))) =
      some ⟨.ok, .none, some (0x987F, 0x5A1F, 0xA5E0), (true, true, false),
        regs .read .v84 .dry .noSync 127 0b11111⟩ := by decide

/-- 95_test_vectors.md Q12. -/
theorem test_qCpld_Q12 :
    seen (step (feed s3 (.line [0x63, 0x70, 0x6C, 0x64, 0x5F, 0x72, 0x65, 0x76, 0x3F]))) =
      some ⟨.ok, .none, some (0xD800, 0x5A1F, 0xA5E0), (true, true, true),
        regs .cpldRevisionQuery .v84 .dry .noSync 0 0b11111⟩ := by decide

/-- 95_test_vectors.md Q18. -/
theorem test_qCpld_Q18 :
    seen (step (feed (lowCpldCode s3) (.index 17))) =
      some ⟨.ok, .none, some (0x1800, 0x5A1F, 0xA5E0), (true, true, true),
        regs .cpldRevisionQuery .v84 .dry .noSync 0 0b11111⟩ := by decide

/-- 95_test_vectors.md Q14. -/
theorem test_qRd_Q14 :
    seen (step (feed (withRelayQuery s1) (.line [0x72, 0x65, 0x6C, 0x61, 0x79, 0x5F, 0x3F]))) =
      some ⟨.ok, .none, some (0x9C7E, 0x5A15, 0xA5EA), (true, false, false),
        regs .read .v17 .dry .noSync 126 0b10101⟩ := by decide

/-- 95_test_vectors.md Q16. -/
theorem test_qRd_Q16 :
    seen (step (feed (withRelayQuery s3) (.index 21))) =
      some ⟨.ok, .none, some (0x987F, 0x5A1F, 0xA5E0), (true, false, false),
        regs .read .v84 .dry .noSync 127 0b11111⟩ := by decide

/-- 95_test_vectors.md M2. -/
theorem test_mHelp_M2 :
    seen (step (feed s1 (.line [0x2D, 0x68, 0x65, 0x6C, 0x70]))) =
      some ⟨.ok, .help, none, (false, false, false),
        regs .write .v17 .dry .noSync 126 0b10101⟩ := by decide

/-- 95_test_vectors.md M3. -/
theorem test_mExit_M3 :
    seen (step (feed s0 (.index 19))) =
      some ⟨.ok, .exit, none, (false, false, false),
        regs .read .v166 .wet .noSync 0 0b00000⟩ := by decide

/-- 95_test_vectors.md M4. -/
theorem test_mExit_M4 :
    seen (step (feed s1 (.line [0x65, 0x78, 0x69, 0x74]))) =
      some ⟨.ok, .exit, none, (false, false, false),
        regs .write .v17 .dry .noSync 126 0b10101⟩ := by decide

/-- 95_test_vectors.md M6. -/
theorem test_mDebug_M6 :
    seen (step (feed s1 (.line [0x64, 0x65, 0x62, 0x75, 0x67]))) =
      some ⟨.ok, .debug, none, (false, false, false),
        regs .write .v17 .dry .noSync 126 0b10101⟩ := by decide

/-- 95_test_vectors.md X1. -/
theorem test_error_X1 :
    seen (step (feed s1 (.line [0x62, 0x6F, 0x67, 0x75, 0x73]))) =
      some ⟨.notFound, .none, none, (false, false, false),
        regs .write .v17 .dry .noSync 126 0b10101⟩ := by decide

/-- 95_test_vectors.md X2. -/
theorem test_error_X2 :
    seen (step (feed s1 (.line []))) =
      some ⟨.notFound, .none, none, (false, false, false),
        regs .write .v17 .dry .noSync 126 0b10101⟩ := by decide

/-- 95_test_vectors.md X4. -/
theorem test_error_X4 :
    seen (step (feed s1 (.line [0x52, 0x65, 0x6C, 0x61, 0x79, 0x5F, 0x61, 0x61]))) =
      some ⟨.notFound, .none, none, (false, false, false),
        regs .write .v17 .dry .noSync 126 0b10101⟩ := by decide

/-- 95_test_vectors.md X6. -/
theorem test_error_X6 :
    seen (step (feed s1 (.line [0x74, 0x68, 0x72, 0x65, 0x73, 0x68, 0x5F, 0x31, 0x37, 0x0D]))) =
      some ⟨.notFound, .none, none, (false, false, false),
        regs .write .v17 .dry .noSync 126 0b10101⟩ := by decide

/-- 95_test_vectors.md X7. -/
theorem test_error_X7 :
    seen (step (feed s1 (.line [0x74, 0x68, 0x72, 0x65, 0x73, 0x68, 0x5F, 0x31]))) =
      some ⟨.notFound, .none, none, (false, false, false),
        regs .write .v17 .dry .noSync 126 0b10101⟩ := by decide

/-- 95_test_vectors.md X8. -/
theorem test_error_X8 :
    seen (step (feed s1 (.console ([0x74, 0x68, 0x72, 0x65, 0x73, 0x68, 0x5F, 0x31, 0x37] ++ List.replicate 12 0x58)))) =
      some ⟨.notFound, .none, none, (false, false, false),
        regs .write .v17 .dry .noSync 126 0b10101⟩ := by decide

/-- 95_test_vectors.md X9. -/
theorem test_error_X9 :
    seen (step (feed s1 (.index 21))) =
      some ⟨.badIndex, .none, none, (false, false, false),
        regs .write .v17 .dry .noSync 126 0b10101⟩ := by decide

/-- 95_test_vectors.md X11. -/
theorem test_error_X11 :
    seen (step (feed s1 (.index 1000))) =
      some ⟨.badIndex, .none, none, (false, false, false),
        regs .write .v17 .dry .noSync 126 0b10101⟩ := by decide

/-- 95_test_vectors.md X12. -/
theorem test_reserved00_X12 :
    seen (step (feed (withBadTable s1) (.index 1))) =
      some ⟨.badOpk, .none, none, (false, false, false),
        regs .write .v17 .dry .noSync 126 0b10101⟩ := by decide

/-- 95_test_vectors.md X13. -/
theorem test_reserved17_X13 :
    seen (step (feed (withBadTable s1) (.index 2))) =
      some ⟨.badOpk, .none, none, (false, false, false),
        regs .write .v17 .dry .noSync 126 0b10101⟩ := by decide

/-- 95_test_vectors.md X14. -/
theorem test_endMark_X14 :
    seen (step (feed (withBadTable s1) (.index 3))) =
      some ⟨.badIndex, .none, none, (false, false, false),
        regs .write .v17 .dry .noSync 126 0b10101⟩ := by decide

/-- The recorded index and code of rows M2, W25, X12, X13, X14 and X1. -/
theorem test_recorded_index_and_code :
    recorded (step (feed s1 (.index 18))) = some (some 18, some 0x14) ∧
    recorded (step (feed s0 (.index 6))) = some (some 6, some 0x07) ∧
    recorded (step (feed (withBadTable s1) (.index 1))) = some (some 1, some 0x00) ∧
    recorded (step (feed (withBadTable s1) (.index 2))) = some (some 2, some 0x17) ∧
    recorded (step (feed (withBadTable s1) (.index 3))) = some (none, none) ∧
    recorded (step (feed s1 (.line [0x62]))) = some (none, none) := by decide

/-- The reserved codes without a row of their own: BADOPK with the code, from S1 (R244). -/
theorem test_other_reserved_codes :
    (recorded (exec .reserved18 s1) = some (none, some 0x18) ∧ recorded (exec .reserved19 s1) = some (none, some 0x19) ∧
     recorded (exec .reserved1A s1) = some (none, some 0x1A) ∧ recorded (exec .reserved1B s1) = some (none, some 0x1B)) ∧
    (recorded (exec .reserved1C s1) = some (none, some 0x1C) ∧ recorded (exec .reserved1D s1) = some (none, some 0x1D) ∧
     recorded (exec .reserved1E s1) = some (none, some 0x1E)) := by decide

/-- 95_test_vectors.md 2.8: `rst` from S3. -/
theorem test_rst :
    seen (step (feed s3 .rst)) = some ⟨.ok, .none, none, (false, false, false), regs .read .v166 .wet .noSync 0 0b00000⟩ := by decide

/-! ## The link (95_test_vectors.md section 3, P1 step 4: the frame 1234 9A03 5A1D A5E2 ABCD) -/

/-- The state of P1 after step 4. -/
def p1 : State := after (exec .qThr (stateOf (regs .write .v84 .wet .noSync 3 0b11101)))

/-- `p1` with word `k` next and the given byte order. -/
def p1At (k : Nat) (o : ByteOrder) : State :=
  { p1 with cfg := { p1.cfg with byteOrder := o }, txn := { Txn.fresh with written := k } }

/-- Slot 1 holds 0x00009A03 at `CMD_BASE` + 4, and slot 4 holds 0x0000ABCD at + 16, in either byte order (R52, R57). -/
theorem test_link_write :
    (after (hostStep (.writeWord 1) (p1At 1 .little))).link = [(0x104, 0x03), (0x105, 0x9A), (0x106, 0), (0x107, 0)] ∧
    (after (hostStep (.writeWord 4) (p1At 4 .big))).link = [(0x110, 0), (0x111, 0), (0x112, 0xAB), (0x113, 0xCD)] := by decide

/-- `p1` after the frame is written, the delay has passed and status word 0 is read, the UUT's word 0x0A00 in status slot 1 with rubbish above it. -/
def p1Read : State :=
  { p1 with
    txn := { Txn.fresh with written := 5, waited := 3, statusRead := [0x0000] }
    link := Memory.writeSlot .little [] 0x204 0xDEAD0A00 }

/-- `p1` with all seven status words of P1 in the host's hands. -/
def p1Held : State :=
  { p1 with txn := { Txn.fresh with written := 5, waited := 3, statusRead := [0x0000, 0x0A00, 0x001D, 0x0005, 0, 0, 0] } }

/-- Status word 1 read: the host has its low half, and the port is as it was (R53, R61). -/
theorem test_link_read :
    (after (hostStep (.readStatus 1) p1Read)).txn.statusRead = [0x0000, 0x0A00] ∧
    (after (hostStep (.readStatus 1) p1Read)).statusIn[1] = 0 := by decide

/-- `p1Held` after the host has presented the words, with a CPLD pair that was not asked for. -/
def p1Presented : State := after (hostStep (.present #v[0x0315, 0x2501]) p1Held)

/-- P1: the words presented decode to V84, Wet, NoSync, relays 0b11101, inputs 0x05; `cpld_in` carries what the host put on it (R128). -/
theorem test_link_present :
    (p1Presented.dec.thrRb, p1Presented.dec.dwRb, p1Presented.dec.syncRb) = (.v84, .wet, .noSync) ∧
    (p1Presented.dec.relaysRb, p1Presented.dec.inputs) = (0b11101, 0x05) ∧ p1Presented.cpldIn = #v[0x0315, 0x2501] := by decide

/-- R55: an access to a region whose base is not a multiple of 4 is refused. -/
theorem test_link_unaligned :
    refusalOf (hostStep (.writeWord 0) { p1 with cfg := { p1.cfg with cmdBase := 0x101 } }) = some .unalignedBase := by decide

/-- I16: a status read before the delay, a pulse unasked, words presented before all are read, a command before they are presented. -/
theorem test_contract_breaches :
    faultOf (hostStep (.readStatus 1) { p1Read with txn := { p1Read.txn with waited := 2 } }) = some .statusReadOutOfPlace ∧
    faultOf (hostStep .pulse p1) = some .pulseOutOfPlace ∧
    faultOf (hostStep (.present #v[0x0315, 0x2501]) p1Read) = some .presentOutOfPlace ∧
    faultOf (step (feed p1Held (.index 0))) = some .commandBeforeDone := by decide

/-! ## Witnesses: values that meet the hypotheses of each statement together -/

theorem test_witness_DecodeAndEncodeAgree :
    (decode [0x00, 0xFF] = .ok (.reserved00, [0xFF]) ∧ decode [0x1F] = .ok (.endMark, [])) ∧
      decodeTableWord 8 0x00 = some .reserved00 ∧ decodeTableWord 8 0x1F = some .endMark := ⟨⟨rfl, rfl⟩, rfl, rfl⟩

theorem test_witness_EncodeIsInjective : Cfg.codesWf tc1 = true ∧ s0.st ≠ { s0.st with sh := 1 } := by decide

/-- Both cases of the code that is left over: 0b00 under TC0, 0b11 under TC1. -/
theorem test_witness_UnusedCodesNeverSent :
    (Cfg.codesWf tc0 = true ∧ ∀ t : CmdType, 0b00 ≠ ctCode tc0 t) ∧ (Cfg.codesWf tc1 = true ∧ ∀ t : CmdType, 0b11 ≠ ctCode tc1 t) :=
  ⟨⟨rfl, fun t => by cases t <;> decide⟩, rfl, fun t => by cases t <;> decide⟩

theorem test_witness_ThresholdReadbackPriority :
    (0x0FFF : Word16).extractLsb' 10 2 = 0b11 ∧ (0xFBFF : Word16).extractLsb' 10 2 = 0b10 ∧
    (0xF7FF : Word16).extractLsb' 10 2 = 0b01 ∧ (0xF3FF : Word16).extractLsb' 10 2 = 0b00 := by decide

/-- Two status frames that differ in every reserved bit under TC0. -/
theorem test_witness_DecodeIgnoresReservedBits :
    let w : StatusWords := #v[0xBEEF, 0x0A05, 0x0015, 0x0055, 0, 0, 0]
    let w' : StatusWords := #v[0xBEEF, 0xFAF5, 0xFFF5, 0xFFD5, 0xFFFF, 0xFFFF, 0xFFFF]
    w[0] = w'[0] ∧
    (∀ j, j = 8 ∨ j = 9 ∨ j = 10 ∨ j = 11 ∨ j = tc0.pFe.val ∨ j = tc0.pCe.val ∨ j = tc0.pRr.val ∨ j = tc0.pCoil.val →
      w[1].getLsbD j = w'[1].getLsbD j) ∧
    (∀ j, j < 5 → w[2].getLsbD j = w'[2].getLsbD j) ∧ (∀ j, j < 7 → w[3].getLsbD j = w'[3].getLsbD j) ∧ w ≠ w' := by
  refine ⟨rfl, ?_, by decide, by decide, by decide⟩
  rintro j (rfl | rfl | rfl | rfl | rfl | rfl | rfl | rfl) <;> decide

theorem test_witness_EchoRoundTrip :
    (#v[0, 0x987F, 0x5A11, 0, 0, 0, 0] : StatusWords)[1] = (encodeFrame tc0 (regs .read .v84 .dry .noSync 127 0b10001)).control ∧
    (#v[0, 0x987F, 0x5A11, 0, 0, 0, 0] : StatusWords)[2] = (encodeFrame tc0 (regs .read .v84 .dry .noSync 127 0b10001)).relay := by
  decide

/-- The first and the last command entry of the default table, each side of the equivalence. -/
theorem test_witness_LookupFindsTheNamedEntry :
    (Rom.sentinelLast Config.defaultRom = true ∧ Rom.entriesNamed Config.defaultRom = true ∧
      Rom.namesDistinct Config.defaultRom = true) ∧
    lookup Config.defaultRom [0x74, 0x68, 0x72, 0x65, 0x73, 0x68, 0x5F, 0x31, 0x37] = some 0 ∧
    Config.defaultRom[20]? = some ⟨[0x64, 0x65, 0x62, 0x75, 0x67], 0x16⟩ := by decide

/-- A table with a name twice: the first is found (R148). -/
theorem test_witness_LookupIsFirstMatch :
    lookup [⟨[0x79], 0x03⟩, ⟨[0x78], 0x01⟩, ⟨[0x78], 0x02⟩, ⟨[], 0x1F⟩] [0x78] = some 1 := by decide

theorem test_witness_EmptyLineNeverMatches : Rom.wf 16 Config.defaultRom = true := by decide

theorem test_witness_BootAdmitsWellFormedOnly :
    boot tc0 = .next (State.resetWith tc0) ∧ tc0.wf = true ∧ ({ tc0 with statusBase := 0x202 } : Cfg).wf = false := ⟨rfl, rfl, by decide⟩

theorem test_witness_RelayToggleTwiceRestores :
    ((Instr.tglAA = .tglAA ∧ 0 = 0) ∧ ∃ t u, exec .tglAA s1 = .next t ∧ exec .tglAA t = .next u) ∧
      (Instr.tglCC = .tglCC ∧ 4 = 4) ∧ ∃ t u, exec .tglCC s3 = .next t ∧ exec .tglCC t = .next u :=
  ⟨⟨⟨rfl, rfl⟩, _, _, rfl, rfl⟩, ⟨rfl, rfl⟩, _, _, rfl, rfl⟩

theorem test_witness_ConsecutiveQueriesSendTheSameFrame :
    ∃ t u, exec .qThr s1 = .next t ∧ exec .qFull t = .next u := ⟨_, _, rfl, rfl⟩

/-- One witness for each clause: a query, a write under Sync, a write at the counter's top. -/
theorem test_witness_CounterRule :
    (isDispatching .qThr = true ∧ ∃ t, exec .qThr s1 = .next t ∧ t.ct = .read) ∧
    (isDispatching .tglAA = true ∧ ∃ t, exec .tglAA s2 = .next t ∧ t.ct ≠ .read ∧ t.sync = .sync) ∧
    (isDispatching .qCpld = true ∧ ∃ t, exec .qCpld s3 = .next t ∧ t.ct ≠ .read ∧ t.sync = .noSync) :=
  ⟨⟨rfl, _, rfl, rfl⟩, ⟨rfl, _, rfl, by decide, rfl⟩, rfl, _, rfl, by decide, rfl⟩

theorem test_witness_FrameEncodesTheNewState :
    (isDispatching .rlyOff = true ∧ opkClass .rlyOff = .write ∧ ∃ t, exec .rlyOff s1 = .next t) ∧
    (isDispatching .qCpld = true ∧ opkClass .qCpld = .query ∧ ∃ t, exec .qCpld s1 = .next t) :=
  ⟨⟨rfl, rfl, _, rfl⟩, rfl, rfl, _, rfl⟩

theorem test_witness_HostRequestTable :
    (∃ t, exec .qCpld s1 = .next t ∧ t.out.pendingRead = true ∧ t.out.readCpld = true ∧ t.out.resetReq = true) ∧
    ∃ t, exec .thr17 s1 = .next t ∧ t.out.pendingRead = false := ⟨⟨_, rfl, rfl, rfl, rfl⟩, _, rfl, rfl⟩

/-- Each register changes somewhere. -/
theorem test_witness_RegisterWriters :
    (∃ t, exec .thr17 s0 = .next t ∧ t.thr ≠ s0.thr ∧ t.ct ≠ s0.ct ∧ t.sh ≠ s0.sh) ∧
    (∃ t, exec .setDry s0 = .next t ∧ t.dw ≠ s0.dw) ∧ (∃ t, exec .syncOn s0 = .next t ∧ t.sync ≠ s0.sync) ∧
    ∃ t, exec .rlyOn s0 = .next t ∧ t.rly ≠ s0.rly :=
  ⟨⟨_, rfl, by decide, by decide, by decide⟩, ⟨_, rfl, by decide⟩, ⟨_, rfl, by decide⟩, _, rfl, by decide⟩

theorem test_witness_OperationsLeaveTheRestAlone : ∃ t, exec .tglCB { s1 with link := [(0x100, 7)] } = .next t := ⟨_, rfl⟩

/-- Two states with equal registers and configurations that differ in all the rest. -/
theorem test_witness_StepAndApplyArePure :
    s1.cfg = (feed { s1 with link := [(0x100, 7)], out := p1.out, draws := 5 } .rst).cfg ∧
    s1.st = (feed { s1 with link := [(0x100, 7)], out := p1.out, draws := 5 } .rst).st := ⟨rfl, rfl⟩

/-- The first and the last command entry of the default table. -/
theorem test_witness_StepRunsTheDecodedOperation :
    ((feed s1 (.index 0)).inbox = .index 0 :: [] ∧ commandReady (feed s1 (.index 0)) = true ∧
      ∃ e, s1.cfg.cmdRom[0]? = some e ∧ e.opk ≠ 0x1F) ∧
    (commandReady (feed s1 (.index 20)) = true ∧ ∃ e, s1.cfg.cmdRom[20]? = some e ∧ e.opk ≠ 0x1F) :=
  ⟨⟨rfl, rfl, _, rfl, by decide⟩, rfl, _, rfl, by decide⟩

theorem test_witness_LineStepsAreIndexSteps :
    ((feed s1 (.line [0x64, 0x72, 0x79])).inbox = .line [0x64, 0x72, 0x79] :: [] ∧
      lookup s1.cfg.cmdRom [0x64, 0x72, 0x79] = some 4) ∧
    (feed s1 (.console [0x64])).inbox = .console [0x64] :: [] := by decide

theorem test_witness_UnknownLineRaisesNotFound :
    (feed s1 (.line [])).inbox = .line [] :: [] ∧ commandReady (feed s1 (.line [])) = true ∧ lookup s1.cfg.cmdRom [] = none := by
  decide

/-- At the sentinel's index and at the table's length. -/
theorem test_witness_BadIndexStep :
    (commandReady (feed s1 (.index 22)) = true ∧ s1.cfg.cmdRom.length ≤ 22) ∧
    (commandReady (feed s1 (.index 21)) = true ∧ ∃ e, s1.cfg.cmdRom[21]? = some e ∧ e.opk = 0x1F) :=
  ⟨by decide, rfl, _, rfl, rfl⟩

theorem test_witness_ErrorsAndMetaKeepRegisters :
    (commandNext (feed s1 (.index 1000)) = true ∧ ∃ t, step (feed s1 (.index 1000)) = .next t ∧ t.out.err ≠ .ok) ∧
    (commandNext (feed s1 (.index 18)) = true ∧ ∃ t, step (feed s1 (.index 18)) = .next t ∧ t.out.metaCode ≠ .none) :=
  ⟨⟨rfl, _, rfl, by decide⟩, rfl, _, rfl, by decide⟩

theorem test_witness_OutsideMovesKeepRegisters :
    (outsideNext (feed p1 (.host (.writeWord 0))) = true ∧ ∃ t, step (feed p1 (.host (.writeWord 0))) = .next t) ∧
    (outsideNext (feed p1 (.uut 0x80 7)) = true ∧ ∃ t, step (feed p1 (.uut 0x80 7)) = .next t) ∧ p1.inbox = [] :=
  ⟨⟨rfl, _, rfl⟩, ⟨rfl, _, rfl⟩, rfl⟩

theorem test_witness_SyncIsSetBySyncOnOnly :
    ∃ t, step (feed s1 (.index 6)) = .next t ∧ (feed s1 (.index 6)).sync = .noSync ∧ t.sync = .sync := ⟨_, rfl, rfl, rfl⟩

theorem test_witness_SessionEndsOnExitOnly :
    ∃ t, step (feed s1 (.index 19)) = .next t ∧ ¬ sessionEnded (feed s1 (.index 19)) ∧ sessionEnded t :=
  ⟨_, rfl, by unfold sessionEnded; decide, rfl⟩

theorem test_witness_ResetGivesS0 : (feed s3 .rst).inbox = .rst :: [] := rfl

theorem test_witness_FirstFrameAfterReset :
    (isDispatching .thr17 = true ∧ Instr.thr17 ≠ .syncOn) ∧ (isDispatching .qThr = true ∧ Instr.qThr ≠ .syncOn) := by decide

/-- The first word of a frame without a pulse requested, and the last of one with the pulse made. -/
theorem test_witness_FrameWordIsStoredInItsSlot :
    (∃ f, (p1At 0 .little).out.frame = some f ∧ (p1At 0 .little).txn.abandoned = false ∧ (p1At 0 .little).txn.written = 0 ∧
      ((p1At 0 .little).out.resetReq = true → (p1At 0 .little).txn.pulsed = true) ∧ (p1At 0 .little).cfg.cmdBase % 4 = 0) ∧
    ∃ s : State, ∃ f, s.cfg.byteOrder = .big ∧ s.out.frame = some f ∧ s.txn.abandoned = false ∧ s.txn.written = 4 ∧
      s.out.resetReq = true ∧ s.txn.pulsed = true ∧ s.cfg.cmdBase % 4 = 0 :=
  ⟨⟨_, rfl, rfl, rfl, by decide, rfl⟩,
    ({ after (exec .qCpld (p1At 0 .big)) with txn := { Txn.fresh with written := 4, pulsed := true } } : State), _, rfl, rfl, rfl,
    rfl, rfl, rfl, rfl⟩

/-- A full-status query, its frame written, the delay passed, `a` status slots and `b` CPLD slots read, with `e` to come. -/
def reading (a b : Nat) (e : List Event) : State :=
  { after (exec .qFull s1) with
    txn := { Txn.fresh with written := 5, waited := 3, statusRead := List.replicate a 7, cpldRead := List.replicate b 9 }
    inbox := e }

/-- The first and the last status slot, the first and the last CPLD slot, at the slot numbers of TC0's bases, and both reads whole. -/
theorem test_witness_PresentedWordIsTheSlotsLowHalf :
    (mayReadStatus (reading 0 0 [.uut (0x200 / 4 + 0) 5, .host (.readStatus 0)]) 0 = true ∧
      mayReadStatus (reading 6 0 [.uut (0x200 / 4 + 6) 5, .host (.readStatus 6)]) 6 = true ∧ tc0.statusBase % 4 = 0) ∧
    (mayReadCpld (reading 7 0 [.uut (0x300 / 4 + 2 + 0) 5, .host (.readCpld 0)]) 0 = true ∧
      mayReadCpld (reading 7 1 [.uut (0x300 / 4 + 2 + 1) 5, .host (.readCpld 1)]) 1 = true ∧ tc0.cpldBase % 4 = 0) ∧
    (frameSent (reading 7 2 []) = true ∧ (reading 7 2 []).txn.statusRead.length = 7 ∧ (reading 7 2 []).out.readCpld = true ∧
      (reading 7 2 []).txn.cpldRead.length = 2 ∧ (reading 7 2 []).txn.presented = false) ∧
    (frameSent p1Held = true ∧ p1Held.txn.statusRead.length = 7 ∧ p1Held.out.readCpld = false ∧ p1Held.txn.presented = false) := by
  decide

/-- Without and with the pulse. -/
theorem test_witness_SendScheduleDeliversTheFrame :
    (∃ s : State, ∃ f, s.out.frame = some f ∧ s.txn = Txn.fresh ∧ s.cfg.cmdBase % 4 = 0 ∧ s.out.resetReq = false ∧
      s.inbox = sendSchedule s.out.resetReq) ∧
    ∃ s : State, ∃ f, s.out.frame = some f ∧ s.txn = Txn.fresh ∧ s.cfg.cmdBase % 4 = 0 ∧ s.out.resetReq = true ∧
      s.inbox = sendSchedule s.out.resetReq :=
  ⟨⟨{ after (exec .qThr s1) with inbox := sendSchedule false }, _, rfl, rfl, rfl, rfl, rfl⟩,
    { after (exec .qCpld s1) with inbox := sendSchedule true }, _, rfl, rfl, rfl, rfl, rfl⟩

/-- The delay just met, without and with the CPLD pair requested. -/
theorem test_witness_StatusScheduleFillsThePort :
    (∃ s : State, frameSent s = true ∧ s.txn.statusRead = [] ∧ s.txn.cpldRead = [] ∧ s.txn.presented = false ∧
      s.cfg.delayD ≤ s.txn.waited + 3 ∧ s.cfg.statusBase % 4 = 0 ∧ s.out.readCpld = false ∧
      s.inbox = statusSchedule 3 s.out.readCpld #v[1, 2]) ∧
    ∃ s : State, frameSent s = true ∧ s.txn.statusRead = [] ∧ s.txn.cpldRead = [] ∧ s.txn.presented = false ∧
      s.cfg.delayD ≤ s.txn.waited + 3 ∧ s.cfg.statusBase % 4 = 0 ∧ s.out.readCpld = true ∧ s.cfg.cpldBase % 4 = 0 ∧
      s.inbox = statusSchedule 3 s.out.readCpld #v[1, 2] :=
  ⟨⟨{ after (exec .qThr s1) with txn := { Txn.fresh with written := 5 }, inbox := statusSchedule 3 false #v[1, 2] },
      rfl, rfl, rfl, rfl, by decide, rfl, rfl, rfl⟩,
    { after (exec .qFull s1) with txn := { Txn.fresh with written := 5 }, inbox := statusSchedule 3 true #v[1, 2] },
    rfl, rfl, rfl, rfl, by decide, rfl, rfl, rfl, rfl⟩

/-- A line, a console line and an index, with the last CPLD word unread. -/
theorem test_witness_PrematureCommandIsStuck :
    (commandNext (reading 7 1 [.line []]) = true ∧ commandReady (reading 7 1 [.line []]) = false) ∧
    (commandNext (reading 7 1 [.console []]) = true ∧ commandReady (reading 7 1 [.console []]) = false) ∧
    (commandNext (reading 7 1 [.index 0]) = true ∧ commandReady (reading 7 1 [.index 0]) = false) := by decide

/-- In the middle of the longest transaction: QCPLD from S2, pulsed, written, status read, one CPLD word read, the other next. -/
def longest : State :=
  { after (exec .qCpld s2) with
    txn := { pulsed := true, written := 5, waited := 3, statusRead := List.replicate 7 0x0A00, cpldRead := [0x0315], presented := false, abandoned := false }
    link := Memory.writeSlot .little [] 0x30C 0x12345678
    inbox := [.host (.readCpld 1)] }

/-- For each clause, each of its cases, at the boundary: the step just before or just after the place. -/
theorem test_witness_HostMovesOutOfPlaceAreStuck :
    (p1.out.resetReq = false ∧ longest.txn.pulsed = true ∧ 0 < (p1At 1 .little).txn.written) ∧
    ((after (exec .qCpld s1)).out.resetReq = true ∧ (after (exec .qCpld s1)).txn.pulsed = false ∧ 1 ≠ p1.txn.written ∧
      p1Read.txn.written = 5) ∧
    ((p1At 4 .little).txn.written ≠ 5 ∧ p1.txn.waited < p1.cfg.delayD ∧ 2 ≠ p1Read.txn.statusRead.length ∧
      (reading 7 0 []).txn.statusRead.length = 7) ∧
    (p1.out.readCpld = false ∧ (reading 6 0 []).txn.statusRead.length ≠ 7 ∧ 1 ≠ (reading 7 0 []).txn.cpldRead.length ∧
      (reading 7 2 []).txn.cpldRead.length = 2) ∧
    ((reading 6 0 []).txn.statusRead.length ≠ 7 ∧
      ((reading 7 1 []).out.readCpld = true ∧ (reading 7 1 []).txn.cpldRead.length ≠ 2) ∧
      p1Presented.txn.presented = true) ∧
    s1.out.frame = none ∧ (after (hostStep .linkFailed p1)).txn.abandoned = true := by decide

theorem test_witness_FailedWriteRollsNothingBack : ∃ f, p1.out.frame = some f := ⟨_, rfl⟩

/-- With the second CPLD word to read, and with the words presented. -/
theorem test_witness_EveryStepKeepsSessionInv :
    (SessionInv longest ∧ ∃ t, step longest = .next t) ∧
      SessionInv { p1Presented with inbox := [.index 0] } ∧
      ∃ t, step { p1Presented with inbox := [.index 0] } = .next t := by
  refine ⟨⟨⟨by decide, by decide, ?_, by decide, by decide, by decide, by decide, by decide, by decide, by decide, by decide⟩,
    _, rfl⟩, ⟨by decide, by decide, ?_, by decide, by decide, by decide, by decide, by decide, by decide, by decide, by decide⟩,
    _, rfl⟩ <;>
  · intro f hf
    exact (Option.some.inj hf).symm

end Sys2Proof.Tests
end

