-- ==== Sys2Proof/Proofs/SessionInvariant.lean ====
section
/-! PROOF. What every step keeps: the block's registers and record through the moves of the host and of the UUT (10_state.md R29), the way
`SYNC` becomes Sync (R26, R31), and the session invariant. -/

namespace Sys2Proof.Proofs

open Sys2Proof Sys2Proof.Machine Sys2Proof.Safety

/-! ## One event, by what it is -/

/-- An event that answers a next state is a reset, an error result, one instruction, or a move of the host or of the UUT. -/
theorem eventStep_cases {e : Event} {s t : State} (h : eventStep e s = .next t) :
    (e = .rst ∧ t = rst s) ∨
    (∃ err, err ≠ Err.ok ∧ t = setOut s { Out.idle with err := err }) ∨
    (∃ j k, entryOpk s.cfg.cmdRom j = some k ∧ exec (decodeOpk k) (fetched j k s) = .next t) ∨
    (∃ act, e = .host act ∧ hostStep act s = .next t) ∨
    (∃ slot v, e = .uut slot v ∧ uutStep slot v s = .next t) := by
  cases e with
  | rst => exact .inl ⟨rfl, (Host.Outcome.next.inj h).symm⟩
  | line text =>
    have hc := (whenReady_next h).2
    exact .inr ((command_next (i := 0) (.inl hc)).imp id .inl)
  | console text =>
    have hc := (whenReady_next h).2
    exact .inr ((command_next (i := 0) (.inl hc)).imp id .inl)
  | index i =>
    have hc := (whenReady_next h).2
    exact .inr ((command_next (line := []) (.inr hc)).imp id .inl)
  | host act => exact .inr (.inr (.inr (.inl ⟨act, rfl, h⟩)))
  | uut slot v => exact .inr (.inr (.inr (.inr ⟨slot, v, rfl, h⟩)))

/-- What the UUT's move answers: its slot on the link, and nothing else. -/
theorem uutStep_next {slot : Nat} {v : Slot} {s t : State} (h : uutStep slot v s = .next t) :
    t = { s with link := Memory.writeSlot s.cfg.byteOrder s.link (Config.slotBytes * slot) v } :=
  (Host.Outcome.next.inj h).symm

/-! ## The moves of the host and of the UUT leave the block alone -/

/-- A move of the host changes no register, no field of the record and no parameter, and writes one slot of the link at most. -/
theorem hostStep_frame {act : HostAct} {s t : State} (h : hostStep act s = .next t) :
    t.st = s.st ∧ t.out = s.out ∧ t.cfg = s.cfg ∧
      (t.link = s.link ∨ ∃ a v, t.link = Memory.writeSlot s.cfg.byteOrder s.link a v) := by
  cases act with
  | writeWord k => obtain ⟨-, -, rfl⟩ := writeFrameWord_next h; exact ⟨rfl, rfl, rfl, .inr ⟨_, _, rfl⟩⟩
  | pulse => obtain ⟨-, rfl⟩ := pulseLink_next h; exact ⟨rfl, rfl, rfl, .inl rfl⟩
  | wait d => obtain rfl := Host.Outcome.next.inj ((waitTime_eq s d).symm.trans h); exact ⟨rfl, rfl, rfl, .inl rfl⟩
  | readStatus k => obtain ⟨-, -, rfl⟩ := readStatusSlot_next h; exact ⟨rfl, rfl, rfl, .inl rfl⟩
  | readCpld k => obtain ⟨-, -, rfl⟩ := readCpldSlot_next h; exact ⟨rfl, rfl, rfl, .inl rfl⟩
  | present unasked => obtain ⟨-, rfl⟩ := presentWords_next h; exact ⟨rfl, rfl, rfl, .inl rfl⟩
  | linkFailed => obtain ⟨-, rfl⟩ := giveUp_next h; exact ⟨rfl, rfl, rfl, .inl rfl⟩
  | resend => obtain ⟨-, rfl⟩ := resendFrame_next h; exact ⟨rfl, rfl, rfl, .inl rfl⟩

/-- Settles O40: each move of the host or of the UUT leaves registers, record and configuration, and no move leaves the state. -/
theorem outsideMovesKeepRegisters : Obligations.OutsideMovesKeepRegisters := by
  refine ⟨fun s t hout h => ?_, fun s => step_nil⟩
  obtain ⟨-, rfl⟩ | ⟨e, rest, hi, he⟩ := step_cases h
  · exact ⟨rfl, rfl, rfl⟩
  · cases e with
    | host act =>
      obtain ⟨hst, hrecord, hcfg, -⟩ := hostStep_frame he
      exact ⟨hst, hrecord, hcfg⟩
    | uut slot v =>
      obtain rfl := uutStep_next he
      exact ⟨rfl, rfl, rfl⟩
    | rst | line | console | index => simp [outsideNext, hi] at hout

/-! ## How an instruction leaves `SYNC` and the counter -/

/-- The two writers of `SYNC` (42_dispatch.md R163, section 4). -/
theorem mutated_sync (i : Instr) (s : State) :
    (mutated i s).sync = if i = .syncOn then .sync else if i = .syncOff then .noSync else s.sync := by
  cases i <;> rfl

/-- An instruction other than SYNCON does not turn NoSync into Sync. -/
theorem eq_syncOn_of_mutated_sync {i : Instr} {s : State} (hs : s.sync = .noSync) (hm : (mutated i s).sync = .sync) :
    i = .syncOn := by
  rw [mutated_sync, hs] at hm
  by_contra hne
  simp [hne] at hm

/-- A mutation that ends in a Read transaction left `SYNC` as it was: both its writers are of the write class. -/
theorem mutated_sync_of_read {i : Instr} {s : State} (hr : (mutated i s).ct = .read) : (mutated i s).sync = s.sync := by
  have hon : i ≠ .syncOn := by rintro rfl; simp [mutated] at hr
  have hoff : i ≠ .syncOff := by rintro rfl; simp [mutated] at hr
  rw [mutated_sync, if_neg hon, if_neg hoff]

/-- R31 through one transaction: a Read keeps `SYNC` and the counter, any other under Sync clears it. -/
theorem counterUpdate_mutated_sh_of_sync {i : Instr} {s : State} (hs : s.sync = .sync → s.sh = 0)
    (hm : (mutated i s).sync = .sync) : (counterUpdate (mutated i s)).sh = 0 := by
  obtain ⟨-, hsh, -⟩ := mutated_frame i s
  rw [counterUpdate_sh]
  by_cases hr : (mutated i s).ct = .read
  · rw [if_pos hr, hsh]
    exact hs (mutated_sync_of_read hr ▸ hm)
  · rw [if_neg hr, if_pos hm]

/-- An instruction that turns NoSync into Sync is SYNCON, and its transaction leaves the counter 0 and `CT` Write (R186). -/
theorem exec_sets_sync {i : Instr} {s t : State} (h : exec i s = .next t) (hs : s.sync = .noSync) (ht : t.sync = .sync) :
    t.out.opk = some 0x07 ∧ t.sh = 0 ∧ t.ct = .write := by
  obtain ⟨-, o, rfl, -, -, -, -, -, -, -, hk⟩ | ⟨-, o, rfl, -⟩ := exec_cases i s t h
  · simp only [setOut_sync, counterUpdate_sync] at ht
    obtain rfl := eq_syncOn_of_mutated_sync hs ht
    exact ⟨hk, counterUpdate_mutated_sh_of_sync (by simp [hs]) ht, by simp [mutated]⟩
  · simp [hs] at ht

/-- Settles O41: of all events only an instruction can turn NoSync into Sync, and that instruction is SYNCON. -/
theorem syncIsSetBySyncOnOnly : Obligations.SyncIsSetBySyncOnOnly := by
  intro s t h hs ht
  have same : t.st = s.st → False := fun hst => by
    have hsync : t.sync = s.sync := congrArg RegFile.sync hst
    simp [hsync, hs] at ht
  obtain ⟨-, rfl⟩ | ⟨e, rest, -, he⟩ := step_cases h
  · exact (same rfl).elim
  · obtain ⟨-, rfl⟩ | ⟨err, -, rfl⟩ | ⟨j, k, -, hx⟩ | ⟨act, -, hh⟩ | ⟨slot, v, -, hu⟩ := eventStep_cases he
    · simp at ht
    · exact (same rfl).elim
    · exact exec_sets_sync hx hs ht
    · exact (same (hostStep_frame hh).1).elim
    · obtain rfl := uutStep_next hu
      exact (same rfl).elim

/-! ## The session invariant in three parts: the link, the block, the host's progress -/

/-- The clauses of `SessionInv` on the block alone: its configuration, registers and record. -/
structure BlockInv (c : Cfg) (r : RegFile) (o : Out) : Prop where
  syncHoldsCounter : r.sync = .sync → r.sh = 0
  frameIsCurrent : ∀ f, o.frame = some f → f = encodeFrame c r
  requestsHaveFrame : o.frame = none → o.pendingRead = false ∧ o.readCpld = false ∧ o.resetReq = false
  recordIsOneKind : o.err ≠ .ok ∨ o.metaCode ≠ .none → o.frame = none

/-- The clauses of `SessionInv` on the host's progress. -/
structure ProgressInv (s : State) : Prop where
  progressHasFrame : s.out.frame = none → s.txn = Txn.fresh
  progressBounded : s.txn.written ≤ 5 ∧ s.txn.statusRead.length ≤ 7 ∧ s.txn.cpldRead.length ≤ 2
  pulseFirst : s.out.resetReq = true → 0 < s.txn.written → s.txn.pulsed = true
  statusAfterDelay : s.txn.statusRead ≠ [] → s.txn.written = 5 ∧ s.cfg.delayD ≤ s.txn.waited
  cpldAfterStatus : s.txn.cpldRead ≠ [] → s.txn.statusRead.length = 7 ∧ s.out.readCpld = true
  presentedAreRead : s.txn.presented = true → s.statusIn.toList = s.txn.statusRead ∧
    (s.out.readCpld = true → s.cpldIn.toList = s.txn.cpldRead)

theorem sessionInv_iff (s : State) : SessionInv s ↔ Memory.wf s.link ∧ BlockInv s.cfg s.st s.out ∧ ProgressInv s :=
  ⟨fun h => ⟨h.linkWf, { h with }, { h with }⟩,
    fun ⟨hl, hb, hp⟩ => { hb, hp with linkWf := hl }⟩

/-- A host that has begun nothing meets every clause on its progress. -/
theorem ProgressInv.of_fresh {s : State} (h : s.txn = Txn.fresh) : ProgressInv s := by
  constructor <;> simp [h, Txn.fresh]

/-! ## Commands and reset begin a transaction afresh -/

/-- Every instruction leaves the invariant, whatever the record and the progress before it: only the link's form and R31 carry over. -/
theorem exec_answers_sessionInv {i : Instr} {s t : State} (hl : Memory.wf s.link) (hs : s.sync = .sync → s.sh = 0)
    (h : exec i s = .next t) : SessionInv t := by
  rw [sessionInv_iff]
  obtain ⟨-, o, rfl, hf, herr, hmeta, -⟩ | ⟨-, o, rfl, hf, hq⟩ := exec_cases i s t h
  · obtain ⟨hcfg, -, -, -, -, hlink, -⟩ := mutated_frame i s
    refine ⟨by simpa [hlink] using hl, ⟨?_, ?_, ?_, ?_⟩, .of_fresh rfl⟩
    · exact fun hm => counterUpdate_mutated_sh_of_sync hs (by simpa using hm)
    · intro f hof
      simpa [hf, hcfg, eq_comm] using hof
    · simp [hf]
    · simp [herr, hmeta]
  · refine ⟨hl, ⟨hs, ?_, fun _ => hq, fun _ => hf⟩, .of_fresh rfl⟩
    simp [hf]

/-- An error result leaves a record without frame and request (60_exceptions.md R250). -/
theorem setOut_error_sessionInv {s : State} (hl : Memory.wf s.link) (hs : s.sync = .sync → s.sh = 0) (err : Err) :
    SessionInv (setOut s { Out.idle with err := err }) :=
  (sessionInv_iff _).2 ⟨hl, ⟨hs, by simp [Out.idle], by simp [Out.idle], by simp [Out.idle]⟩, .of_fresh rfl⟩

theorem rst_sessionInv {s : State} (hl : Memory.wf s.link) : SessionInv (rst s) :=
  (sessionInv_iff _).2 ⟨hl, ⟨by simp, by simp [Out.idle], by simp [Out.idle], by simp [Out.idle]⟩, .of_fresh rfl⟩

/-! ## Each move of the host keeps the clauses on its progress -/

theorem pulseLink_keeps_progress {s t : State} (hp : ProgressInv s) (h : pulseLink s = .next t) : ProgressInv t := by
  obtain ⟨hm, rfl⟩ := pulseLink_next h
  obtain ⟨hframe, -⟩ := (mayPulse_iff s).1 hm
  exact { hp with progressHasFrame := fun hn => absurd hn hframe, pulseFirst := fun _ _ => rfl }

/-- A word is written before the fifth, so no status slot has been read yet (R287). -/
theorem writeFrameWord_keeps_progress {s t : State} {k : Nat} (hp : ProgressInv s) (h : writeFrameWord s k = .next t) :
    ProgressInv t := by
  obtain ⟨hm, -, rfl⟩ := writeFrameWord_next h
  obtain ⟨hframe, -, hk, hkw, hpulse⟩ := (mayWrite_iff s k).1 hm
  have hnone : s.txn.statusRead = [] := by
    by_contra hne
    have := (hp.statusAfterDelay hne).1
    omega
  exact { hp with
    progressHasFrame := fun hn => absurd hn hframe
    progressBounded := ⟨hk, hp.progressBounded.2⟩
    pulseFirst := fun hr _ => hpulse hr
    statusAfterDelay := fun hne => absurd hnone hne }

theorem waitTime_keeps_progress {s t : State} {d : Nat} (hp : ProgressInv s) (h : waitTime s d = .next t) : ProgressInv t := by
  rw [waitTime_eq] at h
  obtain rfl := Host.Outcome.next.inj h
  refine { hp with progressHasFrame := fun hn => ?_, statusAfterDelay := fun hne => ?_ }
  · have hsent : ¬ frameSent s = true := fun hf => ((frameSent_iff s).1 hf).1 hn
    simpa [hsent] using hp.progressHasFrame hn
  · obtain ⟨hw, hd⟩ := hp.statusAfterDelay hne
    refine ⟨hw, ?_⟩
    show s.cfg.delayD ≤ if frameSent s = true then s.txn.waited + d else s.txn.waited
    split <;> omega

/-- The words presented fill the status port, so a slot still to be read says that nothing has been presented. -/
theorem ProgressInv.not_presented_of_status {s : State} (hp : ProgressInv s) (hlen : s.txn.statusRead.length < 7) :
    ¬ s.txn.presented = true := by
  intro hpres
  have := congrArg List.length (hp.presentedAreRead hpres).1
  simp only [Vector.length_toList] at this
  omega

/-- The same of the CPLD pair where it is requested. -/
theorem ProgressInv.not_presented_of_cpld {s : State} (hp : ProgressInv s) (hreq : s.out.readCpld = true)
    (hlen : s.txn.cpldRead.length < 2) : ¬ s.txn.presented = true := by
  intro hpres
  have := congrArg List.length ((hp.presentedAreRead hpres).2 hreq)
  simp only [Vector.length_toList] at this
  omega

theorem readStatusSlot_keeps_progress {s t : State} {k : Nat} (hp : ProgressInv s) (h : readStatusSlot s k = .next t) :
    ProgressInv t := by
  obtain ⟨hm, -, rfl⟩ := readStatusSlot_next h
  obtain ⟨hframe, -, hw, hk, hlen, hd⟩ := (mayReadStatus_iff s k).1 hm
  have hstatus : s.txn.statusRead.length < 7 := hlen ▸ hk
  have hcpld : s.txn.cpldRead = [] := by
    by_contra hne
    have := (hp.cpldAfterStatus hne).1
    omega
  exact { hp with
    progressHasFrame := fun hn => absurd hn hframe
    progressBounded := ⟨hp.progressBounded.1, by simpa using hstatus, hp.progressBounded.2.2⟩
    statusAfterDelay := fun _ => ⟨hw, hd⟩
    cpldAfterStatus := fun hne => absurd hcpld hne
    presentedAreRead := fun hpres => absurd hpres (hp.not_presented_of_status hstatus) }

theorem readCpldSlot_keeps_progress {s t : State} {k : Nat} (hp : ProgressInv s) (h : readCpldSlot s k = .next t) :
    ProgressInv t := by
  obtain ⟨hm, -, rfl⟩ := readCpldSlot_next h
  obtain ⟨hframe, -, -, hreq, hstatus, hk, hlen⟩ := (mayReadCpld_iff s k).1 hm
  have hcpld : s.txn.cpldRead.length < 2 := hlen ▸ hk
  exact { hp with
    progressHasFrame := fun hn => absurd hn hframe
    progressBounded := ⟨hp.progressBounded.1, hp.progressBounded.2.1, by simpa using hcpld⟩
    cpldAfterStatus := fun _ => ⟨hstatus, hreq⟩
    presentedAreRead := fun hpres => absurd hpres (hp.not_presented_of_cpld hreq hcpld) }

theorem presentWords_keeps_progress {s t : State} {unasked : CpldWords} (hp : ProgressInv s)
    (h : presentWords unasked s = .next t) : ProgressInv t := by
  obtain ⟨hm, rfl⟩ := presentWords_next h
  obtain ⟨hframe, -, -, hstatus, hcpld, -⟩ := (mayPresent_iff s).1 hm
  refine { hp with
    progressHasFrame := fun hn => absurd hn hframe
    presentedAreRead := fun _ => ⟨portWords_toList hstatus, fun hreq => ?_⟩ }
  have hreq : s.out.readCpld = true := hreq
  simpa [hreq] using portWords_toList (hcpld hreq)

theorem giveUp_keeps_progress {s t : State} (hp : ProgressInv s) (h : giveUp s = .next t) : ProgressInv t := by
  obtain ⟨hframe, rfl⟩ := giveUp_next h
  exact { hp with progressHasFrame := fun hn => absurd hn hframe }

/-- A resend starts everything over but the pulse, so no clause but the first has anything to say (R285). -/
theorem resendFrame_keeps_progress {s t : State} (h : resendFrame s = .next t) : ProgressInv t := by
  obtain ⟨hframe, rfl⟩ := resendFrame_next h
  refine ⟨fun hn => absurd hn hframe, ?_, ?_, ?_, ?_, ?_⟩ <;> simp [Txn.fresh]

theorem hostStep_keeps_progress {act : HostAct} {s t : State} (hp : ProgressInv s) (h : hostStep act s = .next t) :
    ProgressInv t := by
  cases act with
  | pulse => exact pulseLink_keeps_progress hp h
  | writeWord k => exact writeFrameWord_keeps_progress hp h
  | wait d => exact waitTime_keeps_progress hp h
  | readStatus k => exact readStatusSlot_keeps_progress hp h
  | readCpld k => exact readCpldSlot_keeps_progress hp h
  | present unasked => exact presentWords_keeps_progress hp h
  | linkFailed => exact giveUp_keeps_progress hp h
  | resend => exact resendFrame_keeps_progress h

/-! ## The invariant through every event -/

theorem hostStep_keeps_sessionInv {act : HostAct} {s t : State} (hinv : SessionInv s) (h : hostStep act s = .next t) :
    SessionInv t := by
  obtain ⟨hl, hb, hp⟩ := (sessionInv_iff s).1 hinv
  obtain ⟨hst, hout, hcfg, hlink⟩ := hostStep_frame h
  have hl' : Memory.wf t.link := by
    obtain hsame | ⟨a, v, hwrite⟩ := hlink
    · exact hsame ▸ hl
    · exact hwrite ▸ Memory.writeSlot_keeps_wf hl _ _ _
  have hb' : BlockInv t.cfg t.st t.out := by rwa [hst, hout, hcfg]
  exact (sessionInv_iff t).2 ⟨hl', hb', hostStep_keeps_progress hp h⟩

theorem uutStep_keeps_sessionInv {slot : Nat} {v : Slot} {s t : State} (hinv : SessionInv s)
    (h : uutStep slot v s = .next t) : SessionInv t := by
  obtain rfl := uutStep_next h
  exact { hinv with linkWf := Memory.writeSlot_keeps_wf hinv.linkWf _ _ _ }

theorem eventStep_keeps_sessionInv {e : Event} {s t : State} (hinv : SessionInv s) (h : eventStep e s = .next t) :
    SessionInv t := by
  obtain ⟨-, rfl⟩ | ⟨err, -, rfl⟩ | ⟨j, k, -, hx⟩ | ⟨act, -, hh⟩ | ⟨slot, v, -, hu⟩ := eventStep_cases h
  · exact rst_sessionInv hinv.linkWf
  · exact setOut_error_sessionInv hinv.linkWf hinv.syncHoldsCounter err
  · exact exec_answers_sessionInv (s := fetched j k s) hinv.linkWf hinv.syncHoldsCounter hx
  · exact hostStep_keeps_sessionInv hinv hh
  · exact uutStep_keeps_sessionInv hinv hu

/-- The moves to come are no part of the invariant. -/
theorem sessionInv_of_inbox {s : State} (hinv : SessionInv s) (rest : List Event) : SessionInv { s with inbox := rest } :=
  { hinv with }

/-- Settles O52: the step with nothing to come is no step, and every event keeps the invariant. -/
theorem everyStepKeepsSessionInv : Obligations.EveryStepKeepsSessionInv := by
  intro s t hinv h
  obtain ⟨-, rfl⟩ | ⟨e, rest, -, he⟩ := step_cases h
  · exact hinv
  · exact eventStep_keeps_sessionInv (sessionInv_of_inbox hinv rest) he

end Sys2Proof.Proofs
end

section
/-! PROOF. The memory link (20_memory.md): no operation kind touches it, what the host and the UUT put in a slot and read from it, and the host's
schedules of moves that send a frame and read the status. -/

namespace Sys2Proof.Proofs

open Sys2Proof Sys2Proof.Machine Sys2Proof.Safety

/-! ## Operation kinds leave the link alone -/

/-- Settles O33: a dispatching kind writes registers, record and progress only, any other kind record and progress only. -/
theorem operationsLeaveTheRestAlone : Obligations.OperationsLeaveTheRestAlone := by
  intro i s t h
  obtain ⟨-, o, rfl, -⟩ | ⟨-, o, rfl, -⟩ := exec_cases i s t h
  · obtain ⟨hcfg, -, -, hstatus, hcpld, hlink, -, hinbox, hdraws⟩ := mutated_frame i s
    simp [hcfg, hstatus, hcpld, hlink, hinbox, hdraws]
  · simp

/-! ## Slots on the link -/

/-- Byte `b` of a slot just written. -/
theorem read_writeSlot_byte (o : ByteOrder) (m : Memory) (a : Nat) (v : Slot) {b : Nat} (hb : b < 4) :
    Memory.read (Memory.writeSlot o m a v) (a + b) = some (slotByte o v b) := by
  simp [Memory.read_after_writeSlot, hb]

/-- A byte beside the slot just written. -/
theorem read_writeSlot_outside (o : ByteOrder) (m : Memory) {a x : Nat} (v : Slot) (hx : x < a ∨ a + 4 ≤ x) :
    Memory.read (Memory.writeSlot o m a v) x = Memory.read m x := by
  rw [Memory.read_after_writeSlot, if_neg (by omega)]

theorem linkByte_writeSlot (o : ByteOrder) (m : Memory) (n a : Nat) (v : Slot) {b : Nat} (hb : b < 4) :
    linkByte (Memory.writeSlot o m a v) n (a + b) = slotByte o v b := by
  simp [linkByte, read_writeSlot_byte, hb]

/-- A slot read back is the slot written, in either byte order and at every draw (R56, R57). -/
theorem readSlot_writeSlot (o : ByteOrder) (m : Memory) (n a : Nat) (v : Slot) :
    readSlot o (Memory.writeSlot o m a v) n a = v := by
  have h0 := linkByte_writeSlot o m n a v (b := 0) (by omega)
  have h1 := linkByte_writeSlot o m n a v (b := 1) (by omega)
  have h2 := linkByte_writeSlot o m n a v (b := 2) (by omega)
  have h3 := linkByte_writeSlot o m n a v (b := 3) (by omega)
  rw [Nat.add_zero] at h0
  rw [readSlot, h0, h1, h2, h3, slotOfBytes_of_slotByte]

/-- The bytes of a word's slot, least significant first: the word's two bytes, then zeros (R52, R57). -/
theorem slotByte_slotOfWord_little (w : Word16) :
    slotByte .little (slotOfWord w) 0 = w.extractLsb' 0 8 ∧ slotByte .little (slotOfWord w) 1 = w.extractLsb' 8 8 ∧
      slotByte .little (slotOfWord w) 2 = 0 ∧ slotByte .little (slotOfWord w) 3 = 0 := by
  refine ⟨?_, ?_, ?_, ?_⟩ <;>
  · apply BitVec.eq_of_getLsbD_eq
    intro i hi
    simp only [slotByte, slotOfWord, BitVec.getLsbD_extractLsb', BitVec.getLsbD_setWidth]
    interval_cases i <;> simp

/-- The same bytes most significant first. -/
theorem slotByte_slotOfWord_big (w : Word16) :
    slotByte .big (slotOfWord w) 0 = 0 ∧ slotByte .big (slotOfWord w) 1 = 0 ∧
      slotByte .big (slotOfWord w) 2 = w.extractLsb' 8 8 ∧ slotByte .big (slotOfWord w) 3 = w.extractLsb' 0 8 := by
  obtain ⟨b0, b1, b2, b3⟩ := slotByte_slotOfWord_little w
  exact ⟨b3, b2, b1, b0⟩

/-- The bytes on the link after a word is written to its slot, in little byte order. -/
theorem read_writeSlot_word_little (m : Memory) (a : Nat) (w : Word16) :
    let m' := Memory.writeSlot .little m a (slotOfWord w)
    Memory.read m' a = some (w.extractLsb' 0 8) ∧ Memory.read m' (a + 1) = some (w.extractLsb' 8 8) ∧
      Memory.read m' (a + 2) = some 0 ∧ Memory.read m' (a + 3) = some 0 := by
  simp [Memory.read_after_writeSlot, slotByte_slotOfWord_little]

/-- The same in big byte order. -/
theorem read_writeSlot_word_big (m : Memory) (a : Nat) (w : Word16) :
    let m' := Memory.writeSlot .big m a (slotOfWord w)
    Memory.read m' a = some 0 ∧ Memory.read m' (a + 1) = some 0 ∧
      Memory.read m' (a + 2) = some (w.extractLsb' 8 8) ∧ Memory.read m' (a + 3) = some (w.extractLsb' 0 8) := by
  simp [Memory.read_after_writeSlot, slotByte_slotOfWord_big]

/-! ## Writing one frame word -/

/-- Word `k` of a frame in hand is one of the frame's five (R75). -/
theorem frameWords_getElem?_frameWord {s : State} {f : Frame} (hf : s.out.frame = some f) {k : Nat} (hk : k < 5) :
    (frameWords f)[k]? = some (frameWord s k) := by
  have hlen : k < (frameWords f).length := hk
  simp [frameWord, hf, List.getD_eq_getElem?_getD, hlen]

/-- Settles O45: the move is in its place, so it writes the word's slot, whose bytes are the word's. -/
theorem frameWordIsStoredInItsSlot : Obligations.FrameWordIsStoredInItsSlot := by
  intro s k f hf habandoned hk hwritten hpulse halign
  have hmay : mayWrite s k = true := (mayWrite_iff s k).2 ⟨by simp [hf], habandoned, hk, hwritten.symm, hpulse⟩
  refine ⟨_, frameWord s k, writeFrameWord_eq hmay halign, frameWords_getElem?_frameWord hf hk, ?little, ?big, ?outside, rfl⟩
  case little =>
    intro ho
    have hbytes := read_writeSlot_word_little s.link (cmdSlotAddr s.cfg k) (frameWord s k)
    rwa [← ho] at hbytes
  case big =>
    intro ho
    have hbytes := read_writeSlot_word_big s.link (cmdSlotAddr s.cfg k) (frameWord s k)
    rwa [← ho] at hbytes
  case outside => exact fun a ha => read_writeSlot_outside _ _ _ ha

/-! ## What the UUT puts in a slot is what the host reads next -/

/-- The UUT's move and then a move of the host. -/
theorem run_uut_host {s t : State} {slot a : Nat} {v : Slot} {act : HostAct} {rest : List Event}
    (hi : s.inbox = .uut slot v :: .host act :: rest) (ha : 4 * slot = a)
    (h : hostStep act { s with link := Memory.writeSlot s.cfg.byteOrder s.link a v, inbox := rest } = .next t) :
    Host.Core.run Sys2Proof.core 2 s = .next t := by
  subst ha
  rw [run_of_event hi rfl]
  exact run_of_event (s := { s with
    link := Memory.writeSlot s.cfg.byteOrder s.link (4 * slot) v, inbox := .host act :: rest }) rfl h 0

/-- Settles O46: the two round trips, and the presenting of the words read. -/
theorem presentedWordIsTheSlotsLowHalf : Obligations.PresentedWordIsTheSlotsLowHalf := by
  refine ⟨fun s k v rest => ⟨fun hi hmay halign => ?status, fun hi hmay halign => ?cpld⟩, ?present⟩
  case status =>
    obtain ⟨-, -, -, -, hk, -⟩ := (mayReadStatus_iff s k).1 hmay
    have haddr : 4 * (s.cfg.statusBase / 4 + k) = statusSlotAddr s.cfg k := by
      simp only [statusSlotAddr, Config.slotBytes]
      omega
    refine ⟨_, run_uut_host hi haddr (readStatusSlot_eq hmay halign), ?_, ?_, rfl, rfl, rfl, rfl⟩ <;>
      simp [readSlot_writeSlot, wordOfSlot, hk]
  case cpld =>
    obtain ⟨-, -, -, -, -, -, hk⟩ := (mayReadCpld_iff s k).1 hmay
    have haddr : 4 * (s.cfg.cpldBase / 4 + 2 + k) = cpldSlotAddr s.cfg k := by
      simp only [cpldSlotAddr, Config.slotBytes]
      omega
    refine ⟨_, run_uut_host hi haddr (readCpldSlot_eq hmay halign), ?_, ?_, rfl, rfl, rfl, rfl⟩ <;>
      simp [readSlot_writeSlot, wordOfSlot, hk]
  case present =>
    intro s p hsent hstatus hcpld hpresented
    obtain ⟨hframe, habandoned, hwritten⟩ := (frameSent_iff s).1 hsent
    have hmay := (mayPresent_iff s).2 ⟨hframe, habandoned, hwritten, hstatus, hcpld, hpresented⟩
    refine ⟨_, presentWords_eq hmay p, portWords_toList hstatus, fun hreq => ?_, fun hreq => ?_, rfl⟩
    · simpa [hreq] using portWords_toList (hcpld hreq)
    · simp [hreq]

/-! ## Runs of the host's moves -/

/-- `s` with the moves `moves` to come. -/
def withMoves (s : State) (moves : List Event) : State := { s with inbox := moves }

@[simp] theorem withMoves_cfg (s : State) (moves : List Event) : (withMoves s moves).cfg = s.cfg := rfl
@[simp] theorem withMoves_st (s : State) (moves : List Event) : (withMoves s moves).st = s.st := rfl
@[simp] theorem withMoves_out (s : State) (moves : List Event) : (withMoves s moves).out = s.out := rfl
@[simp] theorem withMoves_statusIn (s : State) (moves : List Event) : (withMoves s moves).statusIn = s.statusIn := rfl
@[simp] theorem withMoves_cpldIn (s : State) (moves : List Event) : (withMoves s moves).cpldIn = s.cpldIn := rfl
@[simp] theorem withMoves_link (s : State) (moves : List Event) : (withMoves s moves).link = s.link := rfl
@[simp] theorem withMoves_txn (s : State) (moves : List Event) : (withMoves s moves).txn = s.txn := rfl
@[simp] theorem withMoves_inbox (s : State) (moves : List Event) : (withMoves s moves).inbox = moves := rfl
@[simp] theorem frameSent_withMoves (s : State) (moves : List Event) : frameSent (withMoves s moves) = frameSent s := rfl
@[simp] theorem uutView_withMoves (s : State) (moves : List Event) : uutView (withMoves s moves) = uutView s := rfl

theorem withMoves_of_inbox {s : State} {moves : List Event} (h : s.inbox = moves) : withMoves s moves = s := by
  rw [← h]; rfl

/-- The first move of the host, taken off the moves to come. -/
theorem run_host_move {s t : State} {act : HostAct} {rest : List Event}
    (h : hostStep act (withMoves s rest) = .next (withMoves t rest)) (m : Nat) :
    Host.Core.run Sys2Proof.core (m + 1) (withMoves s (.host act :: rest)) = Host.Core.run Sys2Proof.core m (withMoves t rest) :=
  run_of_event (s := withMoves s (.host act :: rest)) rfl h m

/-- The moves `act 0` to `act (n - 1)` of the host, in this order. -/
def hostMoves (act : Nat → HostAct) (n : Nat) : List Event := (List.range n).map fun k => .host (act k)

@[simp] theorem hostMoves_length (act : Nat → HostAct) (n : Nat) : (hostMoves act n).length = n := by simp [hostMoves]

theorem hostMoves_succ (act : Nat → HostAct) (n : Nat) (rest : List Event) :
    hostMoves act (n + 1) ++ rest = hostMoves act n ++ .host (act n) :: rest := by
  simp [hostMoves, List.range_succ]

/-- Moves `act 0` to `act (n - 1)` of the host lead from `after 0` to `after n` when each leads on by one. -/
theorem run_host_moves {act : Nat → HostAct} {after : Nat → State} {n : Nat}
    (h : ∀ k < n, ∀ rest, hostStep (act k) (withMoves (after k) rest) = .next (withMoves (after (k + 1)) rest)) (rest : List Event)
    (m : Nat) :
    Host.Core.run Sys2Proof.core (n + m) (withMoves (after 0) (hostMoves act n ++ rest)) =
      Host.Core.run Sys2Proof.core m (withMoves (after n) rest) := by
  induction n generalizing rest m with
  | zero => simp [hostMoves]
  | succ n ih =>
    have hlast := run_host_move (h n (by omega) rest) m
    have hfirst := ih (fun k hk => h k (by omega)) (.host (act n) :: rest) (m + 1)
    rw [show n + 1 + m = n + (m + 1) by omega, hostMoves_succ]
    exact hfirst.trans hlast

/-! ## Sending a frame -/

/-- The link after the first `k` frame words are written (R52). -/
def linkAfterWords (s : State) : Nat → Memory
  | 0 => s.link
  | k + 1 => Memory.writeSlot s.cfg.byteOrder (linkAfterWords s k) (cmdSlotAddr s.cfg k) (slotOfWord (frameWord s k))

/-- `s` after the first `k` frame words are written. -/
def afterWords (s : State) (k : Nat) : State :=
  { s with link := linkAfterWords s k, txn := { s.txn with written := k } }

@[simp] theorem afterWords_st (s : State) (k : Nat) : (afterWords s k).st = s.st := rfl
@[simp] theorem afterWords_out (s : State) (k : Nat) : (afterWords s k).out = s.out := rfl
@[simp] theorem afterWords_link (s : State) (k : Nat) : (afterWords s k).link = linkAfterWords s k := rfl
@[simp] theorem afterWords_txn (s : State) (k : Nat) : (afterWords s k).txn = { s.txn with written := k } := rfl

theorem writeWord_afterWords {s : State} {k : Nat} (hframe : s.out.frame ≠ none) (habandoned : s.txn.abandoned = false)
    (hpulse : s.out.resetReq = true → s.txn.pulsed = true) (halign : s.cfg.cmdBase % 4 = 0) (hk : k < 5) (rest : List Event) :
    hostStep (.writeWord k) (withMoves (afterWords s k) rest) = .next (withMoves (afterWords s (k + 1)) rest) :=
  writeFrameWord_eq (s := withMoves (afterWords s k) rest)
    ((mayWrite_iff _ k).2 ⟨hframe, habandoned, hk, rfl, hpulse⟩) halign

/-- What the UUT sees after `k` words: the words written so far, in their slots. -/
theorem commandSlot_afterWords (s : State) (k j : Nat) :
    commandSlot (afterWords s k) j = if j < k then some (slotOfWord (frameWord s j)) else commandSlot s j := by
  induction k with
  | zero => rfl
  | succ k ih =>
    rw [commandSlot_after_write (s := afterWords s k) (t := afterWords s (k + 1)) rfl rfl, ih]
    by_cases hj : j = k
    · simp [hj]
    · simp [hj, show j < k + 1 ↔ j < k by omega]

/-- A byte outside the first `k` command slots is none of the words'. -/
theorem read_linkAfterWords_outside (s : State) {k a : Nat} (ha : a < s.cfg.cmdBase ∨ s.cfg.cmdBase + 4 * k ≤ a) :
    Memory.read (linkAfterWords s k) a = Memory.read s.link a := by
  induction k with
  | zero => rfl
  | succ k ih =>
    have hslot : a < cmdSlotAddr s.cfg k ∨ cmdSlotAddr s.cfg k + 4 ≤ a := by
      simp only [cmdSlotAddr, Config.slotBytes]
      omega
    exact (read_writeSlot_outside _ _ _ hslot).trans (ih (by omega))

/-- Once all five words are written the UUT sees the frame, zero-extended. -/
theorem uutView_afterWords {s : State} {f : Frame} (hf : s.out.frame = some f) :
    uutView (afterWords s 5) = (frameWords f).map fun w => some (slotOfWord w) := by
  simp [uutView, commandSlot_afterWords, List.range_succ, frameWord, hf, frameWords]

/-- A fresh transaction with the requested pulse, if any, made (R263). -/
def afterPulse (s : State) : State := { s with txn := { Txn.fresh with pulsed := s.out.resetReq } }

@[simp] theorem afterPulse_cfg (s : State) : (afterPulse s).cfg = s.cfg := rfl
@[simp] theorem afterPulse_st (s : State) : (afterPulse s).st = s.st := rfl
@[simp] theorem afterPulse_out (s : State) : (afterPulse s).out = s.out := rfl
@[simp] theorem afterPulse_link (s : State) : (afterPulse s).link = s.link := rfl
@[simp] theorem afterPulse_txn (s : State) : (afterPulse s).txn = { Txn.fresh with pulsed := s.out.resetReq } := rfl

/-- The pulse part of the send schedule. -/
def pulseMoves (resetReq : Bool) : List Event := if resetReq then [.host .pulse] else []

theorem sendSchedule_eq (resetReq : Bool) : sendSchedule resetReq = pulseMoves resetReq ++ hostMoves .writeWord 5 := rfl

theorem run_pulse {s : State} (hframe : s.out.frame ≠ none) (htxn : s.txn = Txn.fresh) (rest : List Event) (m : Nat) :
    Host.Core.run Sys2Proof.core ((pulseMoves s.out.resetReq).length + m) (withMoves s (pulseMoves s.out.resetReq ++ rest)) =
      Host.Core.run Sys2Proof.core m (withMoves (afterPulse s) rest) := by
  cases hreq : s.out.resetReq with
  | true =>
    have hmay : mayPulse (withMoves s rest) = true :=
      (mayPulse_iff _).2 (by simp [withMoves, htxn, Txn.fresh, hframe, hreq])
    have hstep : hostStep .pulse (withMoves s rest) = .next (withMoves (afterPulse s) rest) := by
      simpa [hostStep, withMoves, afterPulse, htxn, hreq] using pulseLink_eq hmay
    simpa [pulseMoves, Nat.add_comm] using run_host_move hstep m
  | false =>
    have hsame : afterPulse s = s := by
      simp only [afterPulse, hreq]
      exact congrArg (fun x => { s with txn := x }) htxn.symm
    simp [pulseMoves, hsame]

/-- The whole send schedule: the pulse if requested, then the five words. -/
theorem run_sendSchedule {s : State} (hframe : s.out.frame ≠ none) (htxn : s.txn = Txn.fresh) (halign : s.cfg.cmdBase % 4 = 0)
    (hi : s.inbox = sendSchedule s.out.resetReq) :
    Host.Core.run Sys2Proof.core s.inbox.length s = .next (withMoves (afterWords (afterPulse s) 5) []) := by
  have hpulse := run_pulse hframe htxn (hostMoves .writeWord 5) 5
  have hwords := run_host_moves (after := afterWords (afterPulse s)) (n := 5)
    (fun k hk rest => writeWord_afterWords (s := afterPulse s) hframe rfl id halign hk rest) [] 0
  have hstart : withMoves s (sendSchedule s.out.resetReq) = s := withMoves_of_inbox hi
  calc Host.Core.run Sys2Proof.core s.inbox.length s
      = Host.Core.run Sys2Proof.core (sendSchedule s.out.resetReq).length (withMoves s (sendSchedule s.out.resetReq)) := by
        rw [hstart, hi]
    _ = Host.Core.run Sys2Proof.core 5 (withMoves (afterPulse s) (hostMoves .writeWord 5)) := by
        rw [← hpulse, sendSchedule_eq, List.length_append, hostMoves_length]
    _ = .next (withMoves (afterWords (afterPulse s) 5) []) := by
        rw [← List.append_nil (hostMoves .writeWord 5)]
        exact hwords

/-- A frame without a read request is all there is to do (R265). -/
theorem commandReady_of_sent {s : State} (hsent : frameSent s = true) (hstatus : s.txn.statusRead = [])
    (hread : s.out.pendingRead = false) (hcpld : s.out.readCpld = false) : commandReady s = true := by
  simp [commandReady, dutiesDone, hsent, hstatus, hread, hcpld]

/-- Settles O47: the schedule's run writes the five words after the pulse, and the UUT sees them in their slots. -/
theorem sendScheduleDeliversTheFrame : Obligations.SendScheduleDeliversTheFrame := by
  intro s f hf htxn halign hi
  have hframe : s.out.frame ≠ none := by simp [hf]
  have hsent : frameSent (withMoves (afterWords (afterPulse s) 5) []) = true := by
    rw [frameSent_iff]
    simp [hframe, Txn.fresh]
  have hview := uutView_afterWords (s := afterPulse s) hf
  refine ⟨_, run_sendSchedule hframe htxn halign hi, ?view, ?outside, by simp, by simp, by simp, hsent, ?ready⟩
  case view => simpa [frameWords, slotOfWord] using hview
  case outside =>
    intro a ha
    simpa using read_linkAfterWords_outside (afterPulse s) (k := 5) ha
  case ready =>
    intro hread hcpld
    exact commandReady_of_sent hsent (by simp [Txn.fresh]) (by simpa using hread) (by simpa using hcpld)

/-! ## Reading the status -/

/-- `s` after a wait of `d`, its frame sent (R264). -/
def afterWait (s : State) (d : Nat) : State := { s with txn := { s.txn with waited := s.txn.waited + d } }

@[simp] theorem afterWait_cfg (s : State) (d : Nat) : (afterWait s d).cfg = s.cfg := rfl
@[simp] theorem afterWait_st (s : State) (d : Nat) : (afterWait s d).st = s.st := rfl
@[simp] theorem afterWait_out (s : State) (d : Nat) : (afterWait s d).out = s.out := rfl
@[simp] theorem afterWait_link (s : State) (d : Nat) : (afterWait s d).link = s.link := rfl
@[simp] theorem afterWait_draws (s : State) (d : Nat) : (afterWait s d).draws = s.draws := rfl
@[simp] theorem frameSent_afterWait (s : State) (d : Nat) : frameSent (afterWait s d) = frameSent s := rfl

theorem wait_afterWait {s : State} (hsent : frameSent s = true) (d : Nat) (rest : List Event) :
    hostStep (.wait d) (withMoves s rest) = .next (withMoves (afterWait s d) rest) := by
  rw [hostStep, waitTime_eq, frameSent_withMoves, if_pos hsent]
  rfl

/-- What a read of status slot `k` yields when it is read `k` slots after `s`. -/
def statusWordAt (s : State) (k : Nat) : Word16 :=
  wordOfSlot (readSlot s.cfg.byteOrder s.link (s.draws + k) (statusSlotAddr s.cfg k))

/-- The same of CPLD slot `k`. -/
def cpldWordAt (s : State) (k : Nat) : Word16 :=
  wordOfSlot (readSlot s.cfg.byteOrder s.link (s.draws + k) (cpldSlotAddr s.cfg k))

/-- `s` after the first `n` status slots are read (R53). -/
def afterStatusReads (s : State) (n : Nat) : State :=
  { s with draws := s.draws + n, txn := { s.txn with statusRead := (List.range n).map (statusWordAt s) } }

/-- `s` after the first `n` CPLD slots are read (R54). -/
def afterCpldReads (s : State) (n : Nat) : State :=
  { s with draws := s.draws + n, txn := { s.txn with cpldRead := (List.range n).map (cpldWordAt s) } }

theorem afterStatusReads_zero {s : State} (h : s.txn.statusRead = []) : afterStatusReads s 0 = s := by
  simp only [afterStatusReads, List.range_zero, List.map_nil, ← h, Nat.add_zero]

theorem afterCpldReads_zero {s : State} (h : s.txn.cpldRead = []) : afterCpldReads s 0 = s := by
  simp only [afterCpldReads, List.range_zero, List.map_nil, ← h, Nat.add_zero]

theorem readStatus_afterStatusReads {s : State} {k : Nat} (hsent : frameSent s = true) (hdelay : s.cfg.delayD ≤ s.txn.waited)
    (halign : s.cfg.statusBase % 4 = 0) (hk : k < 7) (rest : List Event) :
    hostStep (.readStatus k) (withMoves (afterStatusReads s k) rest) = .next (withMoves (afterStatusReads s (k + 1)) rest) := by
  obtain ⟨hframe, habandoned, hwritten⟩ := (frameSent_iff s).1 hsent
  have hmay : mayReadStatus (withMoves (afterStatusReads s k) rest) k = true :=
    (mayReadStatus_iff _ k).2 ⟨hframe, habandoned, hwritten, hk, by simp [withMoves, afterStatusReads], hdelay⟩
  have hread := readStatusSlot_eq hmay halign
  simpa [hostStep, withMoves, afterStatusReads, List.range_succ, statusWordAt, Nat.add_assoc] using hread

theorem readCpld_afterCpldReads {s : State} {k : Nat} (hsent : frameSent s = true) (hreq : s.out.readCpld = true)
    (hstatus : s.txn.statusRead.length = 7) (halign : s.cfg.cpldBase % 4 = 0) (hk : k < 2) (rest : List Event) :
    hostStep (.readCpld k) (withMoves (afterCpldReads s k) rest) = .next (withMoves (afterCpldReads s (k + 1)) rest) := by
  obtain ⟨hframe, habandoned, hwritten⟩ := (frameSent_iff s).1 hsent
  have hmay : mayReadCpld (withMoves (afterCpldReads s k) rest) k = true :=
    (mayReadCpld_iff _ k).2 ⟨hframe, habandoned, hwritten, hreq, hstatus, hk, by simp [withMoves, afterCpldReads]⟩
  have hread := readCpldSlot_eq hmay halign
  simpa [hostStep, withMoves, afterCpldReads, List.range_succ, cpldWordAt, Nat.add_assoc] using hread

/-- The words read, on their ports (R61 step 6). -/
def afterPresent (p : CpldWords) (s : State) : State :=
  { s with
    statusIn := portWords 7 s.txn.statusRead
    cpldIn := if s.out.readCpld then portWords 2 s.txn.cpldRead else p
    txn := { s.txn with presented := true } }

@[simp] theorem afterPresent_cfg (p : CpldWords) (s : State) : (afterPresent p s).cfg = s.cfg := rfl
@[simp] theorem afterPresent_st (p : CpldWords) (s : State) : (afterPresent p s).st = s.st := rfl
@[simp] theorem afterPresent_out (p : CpldWords) (s : State) : (afterPresent p s).out = s.out := rfl
@[simp] theorem afterPresent_link (p : CpldWords) (s : State) : (afterPresent p s).link = s.link := rfl
@[simp] theorem afterPresent_statusIn (p : CpldWords) (s : State) :
    (afterPresent p s).statusIn = portWords 7 s.txn.statusRead := rfl
@[simp] theorem afterPresent_cpldIn (p : CpldWords) (s : State) :
    (afterPresent p s).cpldIn = if s.out.readCpld then portWords 2 s.txn.cpldRead else p := rfl
@[simp] theorem afterPresent_txn (p : CpldWords) (s : State) :
    (afterPresent p s).txn = { s.txn with presented := true } := rfl
@[simp] theorem frameSent_afterPresent (p : CpldWords) (s : State) : frameSent (afterPresent p s) = frameSent s := rfl

theorem present_afterPresent {s : State} (hsent : frameSent s = true) (hstatus : s.txn.statusRead.length = 7)
    (hcpld : s.out.readCpld = true → s.txn.cpldRead.length = 2) (hpresented : s.txn.presented = false) (p : CpldWords)
    (rest : List Event) : hostStep (.present p) (withMoves s rest) = .next (withMoves (afterPresent p s) rest) := by
  obtain ⟨hframe, habandoned, hwritten⟩ := (frameSent_iff s).1 hsent
  have hmay : mayPresent (withMoves s rest) = true :=
    (mayPresent_iff _).2 ⟨hframe, habandoned, hwritten, hstatus, hcpld, hpresented⟩
  exact presentWords_eq hmay p

/-- How many CPLD slots are to be read for the record of `s` (R54). -/
def cpldCount (s : State) : Nat := if s.out.readCpld then 2 else 0

theorem lt_cpldCount_iff (s : State) (k : Nat) : k < cpldCount s ↔ s.out.readCpld = true ∧ k < 2 := by
  cases hreq : s.out.readCpld <;> simp [cpldCount, hreq]

/-- `s` after all the reads of the status schedule: the seven status slots, and the CPLD slots where they are requested. -/
def afterReads (s : State) : State := afterCpldReads (afterStatusReads s 7) (cpldCount s)

@[simp] theorem afterReads_cfg (s : State) : (afterReads s).cfg = s.cfg := rfl
@[simp] theorem afterReads_st (s : State) : (afterReads s).st = s.st := rfl
@[simp] theorem afterReads_out (s : State) : (afterReads s).out = s.out := rfl
@[simp] theorem afterReads_link (s : State) : (afterReads s).link = s.link := rfl
@[simp] theorem frameSent_afterReads (s : State) : frameSent (afterReads s) = frameSent s := rfl

/-- The status words read: the low halves of the seven slots, each at its own draw. -/
@[simp] theorem afterReads_statusRead (s : State) : (afterReads s).txn.statusRead = (List.range 7).map (statusWordAt s) := rfl

/-- The CPLD words read, their draws after those of the status. -/
@[simp] theorem afterReads_cpldRead (s : State) :
    (afterReads s).txn.cpldRead = (List.range (cpldCount s)).map (cpldWordAt { s with draws := s.draws + 7 }) := rfl

theorem statusSchedule_eq (s : State) (d : Nat) (p : CpldWords) :
    statusSchedule d s.out.readCpld p = Event.host (.wait d) :: (hostMoves .readStatus 7 ++
      (hostMoves .readCpld (cpldCount s) ++ [.host (.present p)])) := by
  cases hreq : s.out.readCpld <;> simp [statusSchedule, cpldCount, hreq, hostMoves, List.range_succ]

/-- The reads of the status schedule. -/
theorem run_reads {s : State} (hsent : frameSent s = true) (hstatus : s.txn.statusRead = []) (hcpld : s.txn.cpldRead = [])
    (hdelay : s.cfg.delayD ≤ s.txn.waited) (hsbase : s.cfg.statusBase % 4 = 0)
    (hcbase : s.out.readCpld = true → s.cfg.cpldBase % 4 = 0) (rest : List Event) (m : Nat) :
    Host.Core.run Sys2Proof.core (7 + (cpldCount s + m))
        (withMoves s (hostMoves .readStatus 7 ++
          (hostMoves .readCpld (cpldCount s) ++ rest))) =
      Host.Core.run Sys2Proof.core m (withMoves (afterReads s) rest) := by
  have hstatusRun := run_host_moves (after := afterStatusReads s) (n := 7)
    (fun k hk rest => readStatus_afterStatusReads hsent hdelay hsbase hk rest)
    (hostMoves .readCpld (cpldCount s) ++ rest) (cpldCount s + m)
  have hcpldStep : ∀ k < cpldCount s, ∀ rest,
      hostStep (.readCpld k) (withMoves (afterCpldReads (afterStatusReads s 7) k) rest) =
        .next (withMoves (afterCpldReads (afterStatusReads s 7) (k + 1)) rest) := by
    intro k hk rest
    obtain ⟨hreq, hk2⟩ := (lt_cpldCount_iff s k).1 hk
    exact readCpld_afterCpldReads (s := afterStatusReads s 7) hsent hreq (by simp [afterStatusReads]) (hcbase hreq) hk2 rest
  have hcpldRun := run_host_moves hcpldStep rest m
  rw [afterStatusReads_zero hstatus] at hstatusRun
  rw [afterCpldReads_zero (s := afterStatusReads s 7) hcpld] at hcpldRun
  exact hstatusRun.trans hcpldRun

/-- The whole status schedule: the wait, the reads, the presenting. -/
theorem run_statusSchedule {s : State} {d : Nat} {p : CpldWords} (hsent : frameSent s = true) (hstatus : s.txn.statusRead = [])
    (hcpld : s.txn.cpldRead = []) (hpresented : s.txn.presented = false) (hdelay : s.cfg.delayD ≤ s.txn.waited + d)
    (hsbase : s.cfg.statusBase % 4 = 0) (hcbase : s.out.readCpld = true → s.cfg.cpldBase % 4 = 0)
    (hi : s.inbox = statusSchedule d s.out.readCpld p) :
    Host.Core.run Sys2Proof.core s.inbox.length s = .next (withMoves (afterPresent p (afterReads (afterWait s d))) []) := by
  rw [statusSchedule_eq] at hi
  have hreads := run_reads (s := afterWait s d) hsent hstatus hcpld hdelay hsbase hcbase [.host (.present p)] 1
  have hpair : (afterReads (afterWait s d)).out.readCpld = true → (afterReads (afterWait s d)).txn.cpldRead.length = 2 := by
    intro hreq
    have hreq : s.out.readCpld = true := hreq
    simp [cpldCount, hreq]
  have hpresent := run_host_move
    (present_afterPresent (s := afterReads (afterWait s d)) (by simpa using hsent) (by simp) hpair hpresented p []) 0
  have hlen : s.inbox.length = 7 + (cpldCount s + 1) + 1 := by
    rw [hi]
    simp
  rw [hlen, ← withMoves_of_inbox hi]
  exact (run_host_move (wait_afterWait hsent d _) _).trans (hreads.trans hpresent)

/-- Settles O48: the schedule's run presents the words read, and each is its slot's low half. -/
theorem statusScheduleFillsThePort : Obligations.StatusScheduleFillsThePort := by
  intro s d p hsent hstatus hcpld hpresented hdelay hsbase hcbase hi
  refine ⟨_, run_statusSchedule hsent hstatus hcpld hpresented hdelay hsbase hcbase hi,
    ?status, ?pair, ?unasked, by simp [State.dec], by simp, by simp, by simp, by simp, by simp, ?ready, ?meaningful⟩
  case status =>
    intro k hk
    simp [portWords_getElem, hk, statusWordAt, wordOfSlot, statusSlotAddr]
  case pair =>
    intro hreq k hk
    simp [portWords_getElem, hk, hreq, cpldCount, cpldWordAt, wordOfSlot, cpldSlotAddr]
  case unasked =>
    intro hreq
    simp [hreq]
  case ready => simp [commandReady, dutiesDone, hsent]
  case meaningful => exact fun hreq => ⟨by simpa using hreq, by simp⟩

end Sys2Proof.Proofs
end

section
/-! PROOF. The encodings of 30_encoding.md: operation kinds, their codes and their bytes (R90), the fields of the frame words (R76 to R80, R89),
and the code tables of the registers and of the output record (R70 to R74). -/

namespace Sys2Proof.Proofs

open Sys2Proof Sys2Proof.Machine

/-! ## Operation kinds and their 5-bit codes -/

theorem decodeOpk_encodeOpk (i : Instr) : decodeOpk (encodeOpk i) = i := by cases i <;> rfl

/-- The map has every 5-bit value (R90), so no code is lost by decoding it. -/
theorem encodeOpk_decodeOpk : ∀ k : Opk, encodeOpk (decodeOpk k) = k := by decide

theorem decodeOpk_eq_iff (k : Opk) (i : Instr) : decodeOpk k = i ↔ k = encodeOpk i :=
  ⟨fun h => h ▸ (encodeOpk_decodeOpk k).symm, fun h => h ▸ decodeOpk_encodeOpk i⟩

/-! ## Codes in bytes -/

/-- The bytes that hold a code are those below 32, and the code is their low five bits. -/
theorem byte_eq_setWidth_iff (b : Byte) (k : Opk) : b = k.setWidth 8 ↔ b.toNat < 32 ∧ b.setWidth 5 = k := by
  have hk := k.isLt
  simp only [← BitVec.toNat_inj, BitVec.toNat_setWidth]
  omega

theorem decode_cons_of_lt {b : Byte} (hb : b.toNat < 32) (rest : List Byte) :
    decode (b :: rest) = .ok (decodeOpk (b.setWidth 5), rest) := if_pos hb

theorem decode_cons_of_ge {b : Byte} (hb : 32 ≤ b.toNat) (rest : List Byte) : decode (b :: rest) = .error (.notOpk5 b) :=
  if_neg (by omega)

theorem encode_append (i : Instr) (rest : List Byte) : encode i ++ rest = (encodeOpk i).setWidth 8 :: rest := rfl

/-- What decodes to an instruction is that instruction's encoding, and nothing else. -/
theorem decode_eq_ok_iff (bytes rest : List Byte) (i : Instr) : decode bytes = .ok (i, rest) ↔ bytes = encode i ++ rest := by
  cases bytes with
  | nil => simp [decode, encode]
  | cons b tail =>
    rw [encode_append, List.cons.injEq, byte_eq_setWidth_iff, ← decodeOpk_eq_iff]
    by_cases hb : b.toNat < 32
    · simp [decode_cons_of_lt hb, hb]
    · simp [decode_cons_of_ge (Nat.le_of_not_lt hb), hb]

theorem decode_encode_append (i : Instr) (rest : List Byte) : decode (encode i ++ rest) = .ok (i, rest) :=
  (decode_eq_ok_iff _ _ _).2 rfl

/-! ## Words of the opcode table -/

theorem decodeTableWord_eq_none {nbits w : Nat} (h : nbits = 0 ∨ 256 ≤ w) : decodeTableWord nbits w = none := if_pos h

theorem decodeTableWord_eq_some_iff_decode {nbits w : Nat} (h : ¬ (nbits = 0 ∨ 256 ≤ w)) (i : Instr) :
    decodeTableWord nbits w = some i ↔ decode [BitVec.ofNat 8 w] = .ok (i, []) := by
  rw [decodeTableWord, if_neg h]
  by_cases hb : (BitVec.ofNat 8 w).toNat < 32
  · simp [decode_cons_of_lt hb]
  · simp [decode_cons_of_ge (Nat.le_of_not_lt hb)]

/-- A table word is an instruction exactly if it is that instruction's code, given at least one bit. -/
theorem decodeTableWord_eq_some_iff (nbits w : Nat) (i : Instr) :
    decodeTableWord nbits w = some i ↔ nbits ≠ 0 ∧ w = (encodeOpk i).toNat := by
  have hcode := (encodeOpk i).isLt
  by_cases h : nbits = 0 ∨ 256 ≤ w
  · rw [decodeTableWord_eq_none h]
    simp only [reduceCtorEq, false_iff]
    omega
  · rw [decodeTableWord_eq_some_iff_decode h, decode_eq_ok_iff, encode_append, List.cons.injEq, ← BitVec.toNat_inj,
      BitVec.toNat_ofNat, BitVec.toNat_setWidth]
    simp only [and_true]
    omega

/-- Settles O2: a byte sequence decodes to an instruction exactly if it begins with its encoding; the code maps are inverse to each other. -/
theorem decodeAndEncodeAgree : Obligations.DecodeAndEncodeAgree :=
  ⟨decode_encode_append, fun bytes rest i => (decode_eq_ok_iff bytes rest i).1, encodeOpk_decodeOpk, decodeTableWord_eq_some_iff⟩

/-- Settles O1: each code is its kind's in the OPK map, and the byte forms are the decoder's three cases. -/
theorem writtenOutCodesDecode : Obligations.WrittenOutCodesDecode :=
  ⟨decodeOpk_encodeOpk .thr17, decodeOpk_encodeOpk .setDry, decodeOpk_encodeOpk .syncOn, decodeOpk_encodeOpk .tglCC,
    decodeOpk_encodeOpk .rlyOn, decodeOpk_encodeOpk .qCpld, decodeOpk_encodeOpk .mExit, decodeOpk_encodeOpk .reserved00,
    decodeOpk_encodeOpk .reserved1E, decodeOpk_encodeOpk .endMark, decode_encode_append .qCpld [0xFF],
    decode_cons_of_ge (b := 0x20) (by decide) [], rfl⟩

/-! ## The fields of the frame words -/

@[simp] theorem encodeFrame_header (c : Cfg) (r : RegFile) : (encodeFrame c r).header = c.header := rfl
@[simp] theorem encodeFrame_control (c : Cfg) (r : RegFile) : (encodeFrame c r).control = controlWord c r := rfl
@[simp] theorem encodeFrame_relay (c : Cfg) (r : RegFile) : (encodeFrame c r).relay = relayWord c r := rfl
@[simp] theorem encodeFrame_inverse (c : Cfg) (r : RegFile) : (encodeFrame c r).inverse = inverseWord (relayWord c r) := rfl
@[simp] theorem encodeFrame_footer (c : Cfg) (r : RegFile) : (encodeFrame c r).footer = c.footer := rfl

/-- Bits 15:14 of the control word (R77). -/
theorem controlWord_ctField (c : Cfg) (r : RegFile) : (controlWord c r).extractLsb' 14 2 = ctCode c r.ct := by
  apply BitVec.eq_of_getLsbD_eq
  intro i hi
  rw [BitVec.getLsbD_extractLsb', controlWord_getLsbD]
  simp [hi, show ¬ 14 + i < 7 by omega, show ¬ 14 + i = 7 by omega, show ¬ 14 + i = 8 by omega, show ¬ 14 + i = 9 by omega,
    show ¬ 14 + i < 12 by omega, show 14 + i < 16 by omega]

theorem controlWord_bit7 (c : Cfg) (r : RegFile) : (controlWord c r).getLsbD 7 = false := controlWord_getLsbD c r 7

/-- Bits 15:8 of the relay word (R78). -/
theorem relayWord_constantField (c : Cfg) (r : RegFile) : (relayWord c r).extractLsb' 8 8 = c.relayHi := by
  apply BitVec.eq_of_getLsbD_eq
  intro i hi
  rw [BitVec.getLsbD_extractLsb', relayWord_getLsbD]
  simp [hi, show ¬ 8 + i < 5 by omega, show 8 + i < 16 by omega]

theorem relayWord_zeroBit (c : Cfg) (r : RegFile) {i : Nat} (hlo : 5 ≤ i) (hhi : i < 8) : (relayWord c r).getLsbD i = false := by
  simp [relayWord_getLsbD, hhi, show ¬ i < 5 by omega]

/-- Bits 7:5 of the relay word (R78, 92_eei_decisions.md D8). -/
theorem relayWord_zeroField (c : Cfg) (r : RegFile) : (relayWord c r).extractLsb' 5 3 = 0 := by
  apply BitVec.eq_of_getLsbD_eq
  intro i hi
  simp [relayWord_zeroBit c r (i := 5 + i) (by omega) (by omega)]

/-- Bits 4:0 of the relay word (R78). -/
theorem relayWord_relayField (c : Cfg) (r : RegFile) : (relayWord c r).extractLsb' 0 5 = r.rly := by
  apply BitVec.eq_of_getLsbD_eq
  intro i hi
  simp [relayWord_getLsbD, hi]

/-- The inverse word is the complement (R79, R114). -/
theorem inverseWord_eq_not (relay : Word16) : inverseWord relay = ~~~relay := BitVec.xor_allOnes

/-- A field of the inverse word is the complement of the relay word's field, the field that ends at the top bit too (which the library's
`BitVec.extractLsb'_not_of_lt` leaves out). -/
theorem inverseWord_field (relay : Word16) {start len : Nat} (h : start + len ≤ 16) :
    (inverseWord relay).extractLsb' start len = ~~~(relay.extractLsb' start len) := by
  apply BitVec.eq_of_getLsbD_eq
  intro i hi
  simp [inverseWord_eq_not, hi, show start + i < 16 by omega]

/-- Settles O4: each field of the relay word, and its complement in the inverse word. -/
theorem constantRelayAndInverseWords : Obligations.ConstantRelayAndInverseWords := by
  intro c r
  simp only [encodeFrame_relay, encodeFrame_inverse]
  refine ⟨encodeFrame_header c r, encodeFrame_footer c r, relayWord_constantField c r, relayWord_zeroField c r,
    relayWord_relayField c r, inverseWord_eq_not (relayWord c r), ?constant, ?ones, ?relays⟩
  case constant => rw [inverseWord_field _ (by omega), relayWord_constantField]
  case ones => rw [inverseWord_field _ (by omega), relayWord_zeroField]; rfl
  case relays => rw [inverseWord_field _ (by omega), relayWord_relayField]

/-- Settles O7: the sent code is the register's, and the reserved bits are zero. -/
theorem unusedCodesNeverSent : Obligations.UnusedCodesNeverSent := by
  intro c r _ v hunused
  simp only [encodeFrame_control, encodeFrame_relay, controlWord_ctField]
  exact ⟨(hunused r.ct).symm, controlWord_bit7 c r, relayWord_zeroBit c r (by omega) (by omega),
    relayWord_zeroBit c r (by omega) (by omega), relayWord_zeroBit c r (by omega) (by omega)⟩

/-! ## The code tables -/

/-- Settles O8: the tables' rows; the codes of Dry and NoSync are complements of one bit, which is 1 less the bit (R72, R73). -/
theorem fieldAndPortCodes : Obligations.FieldAndPortCodes := by
  refine ⟨fun c => ⟨rfl, rfl, rfl, rfl, ?dry, rfl, ?noSync⟩, ?thresholds, ?relays, ?metaCodes, ?errors⟩
  case dry => exact BitVec.toNat_not (x := c.dwWet)
  case noSync => exact BitVec.toNat_not (x := c.syncSync)
  case thresholds => exact ⟨rfl, rfl, rfl, rfl⟩
  case relays => exact ⟨rfl, rfl, rfl, rfl, rfl⟩
  case metaCodes => exact ⟨rfl, rfl, rfl, rfl⟩
  case errors => exact ⟨rfl, rfl, rfl, rfl⟩

end Sys2Proof.Proofs
end

section
/-! PROOF. The frame codec of 40_frame_codec.md: the control word's fields (R112) and what it tells of the registers (R118), the integrity
test (R130, R132), the decode of a status frame (R120 to R129), and the echo's round trip (R131). -/

namespace Sys2Proof.Proofs

open Sys2Proof Sys2Proof.Machine

/-! ## Fields of a word, bit by bit -/

theorem extractLsb'_eq_iff {w len : Nat} (x : BitVec w) (start : Nat) (v : BitVec len) :
    x.extractLsb' start len = v ↔ ∀ i, i < len → x.getLsbD (start + i) = v.getLsbD i := by
  constructor
  · rintro rfl i hi
    simp [hi]
  · intro h
    apply BitVec.eq_of_getLsbD_eq
    intro i hi
    simp [hi, h i hi]

theorem extractLsb'_one_eq_iff {w : Nat} (x : BitVec w) (start : Nat) (v : BitVec 1) :
    x.extractLsb' start 1 = v ↔ x.getLsbD start = v.getLsbD 0 := by
  simp [extractLsb'_eq_iff]

theorem extractLsb'_two_eq_iff {w : Nat} (x : BitVec w) (start : Nat) (v : BitVec 2) :
    x.extractLsb' start 2 = v ↔ x.getLsbD start = v.getLsbD 0 ∧ x.getLsbD (start + 1) = v.getLsbD 1 := by
  simp [extractLsb'_eq_iff, Nat.le_one_iff_eq_zero_or_eq_one]

theorem extractLsb'_congr {w : Nat} {x y : BitVec w} {start len : Nat}
    (h : ∀ i, start ≤ i → i < start + len → x.getLsbD i = y.getLsbD i) : x.extractLsb' start len = y.extractLsb' start len := by
  rw [extractLsb'_eq_iff]
  intro i hi
  simp [hi, h (start + i) (by omega) (by omega)]

/-- One bit is the complement of another exactly if it differs: the second code of R72 and of R73. -/
theorem bit_eq_not_iff : ∀ x v : BitVec 1, x = ~~~v ↔ x ≠ v := by decide

/-! ## The fields of the control word (R112) -/

/-- Bits 13:12. -/
theorem controlWord_midField (c : Cfg) (r : RegFile) : (controlWord c r).extractLsb' 12 2 = r.mid :=
  (extractLsb'_two_eq_iff _ _ _).2 ⟨controlWord_getLsbD c r 12, controlWord_getLsbD c r 13⟩

/-- Bits 11:10. -/
theorem controlWord_thrField (c : Cfg) (r : RegFile) : (controlWord c r).extractLsb' 10 2 = thrCode r.thr :=
  (extractLsb'_two_eq_iff _ _ _).2 ⟨controlWord_getLsbD c r 10, controlWord_getLsbD c r 11⟩

/-- Bit 9. -/
theorem controlWord_dwField (c : Cfg) (r : RegFile) : (controlWord c r).extractLsb' 9 1 = dwCode c r.dw :=
  (extractLsb'_one_eq_iff _ _ _).2 (controlWord_getLsbD c r 9)

/-- Bit 8. -/
theorem controlWord_syncField (c : Cfg) (r : RegFile) : (controlWord c r).extractLsb' 8 1 = syncCode c r.sync :=
  (extractLsb'_one_eq_iff _ _ _).2 (controlWord_getLsbD c r 8)

/-- Bits 7:0: the counter, below a zero bit. -/
theorem controlWord_shField (c : Cfg) (r : RegFile) : (controlWord c r).extractLsb' 0 8 = r.sh.setWidth 8 := by
  rw [extractLsb'_eq_iff]
  intro i hi
  rw [Nat.zero_add, BitVec.getLsbD_setWidth]
  by_cases hcount : i < 7
  · simp [controlWord_getLsbD, hcount, hi]
  · obtain rfl : i = 7 := by omega
    rw [controlWord_bit7, BitVec.getLsbD_of_ge r.sh 7 le_rfl, Bool.and_false]

/-- Settles O3: the control word's fields, each read off its bits. -/
theorem controlWordFields : Obligations.ControlWordFields := fun c r =>
  ⟨controlWord_ctField c r, controlWord_midField c r, controlWord_thrField c r, controlWord_dwField c r, controlWord_syncField c r,
    controlWord_shField c r, controlWord_bit7 c r⟩

/-! ## The integrity test (R130) -/

theorem integrityOk_iff (relay inv : Word16) : integrityOk relay inv = true ↔ inv = relay ^^^ 0xFFFF := beq_iff_eq

/-- Settles O5: the encoder makes the inverse word by the relation that the test checks (R114). -/
theorem everyFramePassesIntegrity : Obligations.EveryFramePassesIntegrity :=
  ⟨fun _ _ => (integrityOk_iff _ _).2 rfl, integrityOk_iff⟩

/-! ## Readback of a code (R123 to R125): the register value whose code the field holds -/

theorem thrCode_injective : Function.Injective thrCode := by
  intro t t'
  cases t <;> cases t' <;> decide

/-- The priority decode of R123 is the inverse of the code table R71, for each of the four values of the field. -/
theorem thrCode_thrReadback (w : Word16) : thrCode (thrReadback w) = w.extractLsb' 10 2 := by
  have both : w.extractLsb' 10 2 = 0b11 ↔ w[10] = true ∧ w[11] = true := extractLsb'_two_eq_iff w 10 0b11
  rw [eq_comm, extractLsb'_two_eq_iff, thrReadback]
  split_ifs with hboth h11 h10
  · exact both.1 hboth
  · exact ⟨Bool.eq_false_iff.2 fun h10 => hboth (both.2 ⟨h10, h11⟩), h11⟩
  · exact ⟨h10, Bool.eq_false_iff.2 h11⟩
  · exact ⟨Bool.eq_false_iff.2 h10, Bool.eq_false_iff.2 h11⟩

theorem thrReadback_eq_iff (w : Word16) (t : Threshold) : thrReadback w = t ↔ w.extractLsb' 10 2 = thrCode t := by
  rw [← thrCode_thrReadback, thrCode_injective.eq_iff]

theorem dwReadback_eq_iff (c : Cfg) (w : Word16) (d : DryWet) : dwReadback c w = d ↔ w.extractLsb' 9 1 = dwCode c d := by
  cases d with
  | wet => simp [dwReadback, dwCode]
  | dry => simp [dwReadback, dwCode, bit_eq_not_iff]

theorem syncReadback_eq_iff (c : Cfg) (w : Word16) (m : SyncMode) : syncReadback c w = m ↔ w.extractLsb' 8 1 = syncCode c m := by
  cases m with
  | sync => simp [syncReadback, syncCode]
  | noSync => simp [syncReadback, syncCode, bit_eq_not_iff]

/-- Settles O9: each value of bits 11:10 is a threshold's code, and its readback is that threshold. -/
theorem thresholdReadbackPriority : Obligations.ThresholdReadbackPriority := by
  have priority : ∀ w : Word16, (w.extractLsb' 10 2 = 0b11 → thrReadback w = .v17) ∧
      (w.extractLsb' 10 2 = 0b10 → thrReadback w = .v84) ∧ (w.extractLsb' 10 2 = 0b01 → thrReadback w = .v33) ∧
      (w.extractLsb' 10 2 = 0b00 → thrReadback w = .v166) := fun w =>
    ⟨(thrReadback_eq_iff w .v17).2, (thrReadback_eq_iff w .v84).2, (thrReadback_eq_iff w .v33).2, (thrReadback_eq_iff w .v166).2⟩
  exact ⟨fun _ w _ => priority w[1], priority, rfl, rfl, rfl, rfl, rfl⟩

/-! ## The decode of a status frame -/

theorem flagAt_eq_getLsbD (w : Word16) (p : Fin 16) : flagAt w p = w.getLsbD p.val := rfl

/-- Settles O10: each field of the decode is the bits it is read from. -/
theorem decodedFields : Obligations.DecodedFields := by
  intro c w p
  refine ⟨rfl, flagAt_eq_getLsbD _ _, flagAt_eq_getLsbD _ _, flagAt_eq_getLsbD _ _, flagAt_eq_getLsbD _ _, ?dw, ?sync, ?relays,
    ?inputs, rfl, rfl⟩
  case dw => exact (dwReadback_eq_iff c w[1] .wet).trans (extractLsb'_one_eq_iff _ _ _)
  case sync => exact (syncReadback_eq_iff c w[1] .sync).trans (extractLsb'_one_eq_iff _ _ _)
  case relays =>
    intro j hj
    simp [decodeStatus, hj]
  case inputs =>
    intro j hj
    simp [decodeStatus, hj]

/-- Settles O11: every field of the decode reads bits on which the two frames agree. -/
theorem decodeIgnoresReservedBits : Obligations.DecodeIgnoresReservedBits := by
  intro c w w' p hgeneral hflags hrelays hinputs
  have hfe : flagAt w[1] c.pFe = flagAt w'[1] c.pFe := hflags _ (by simp)
  have hce : flagAt w[1] c.pCe = flagAt w'[1] c.pCe := hflags _ (by simp)
  have hrr : flagAt w[1] c.pRr = flagAt w'[1] c.pRr := hflags _ (by simp)
  have hcoil : flagAt w[1] c.pCoil = flagAt w'[1] c.pCoil := hflags _ (by simp)
  have hthr : thrReadback w[1] = thrReadback w'[1] := by
    rw [thrReadback_eq_iff, thrCode_thrReadback]
    exact extractLsb'_congr fun i _ _ => hflags i (by omega)
  have hdw : dwReadback c w[1] = dwReadback c w'[1] := by
    rw [dwReadback_eq_iff, ← (dwReadback_eq_iff c w'[1] _).1 rfl]
    exact extractLsb'_congr fun i _ _ => hflags i (by omega)
  have hsync : syncReadback c w[1] = syncReadback c w'[1] := by
    rw [syncReadback_eq_iff, ← (syncReadback_eq_iff c w'[1] _).1 rfl]
    exact extractLsb'_congr fun i _ _ => hflags i (by omega)
  have hrb : w[2].extractLsb' 0 5 = w'[2].extractLsb' 0 5 := extractLsb'_congr fun i _ _ => hrelays i (by omega)
  have hin : w[3].extractLsb' 0 7 = w'[3].extractLsb' 0 7 := extractLsb'_congr fun i _ _ => hinputs i (by omega)
  simp only [decodeStatus, hgeneral, hfe, hce, hrr, hcoil, hthr, hdw, hsync, hrb, hin]

/-! ## Readback of an encoded frame -/

@[simp] theorem thrReadback_controlWord (c : Cfg) (r : RegFile) : thrReadback (controlWord c r) = r.thr :=
  (thrReadback_eq_iff _ _).2 (controlWord_thrField c r)

@[simp] theorem dwReadback_controlWord (c : Cfg) (r : RegFile) : dwReadback c (controlWord c r) = r.dw :=
  (dwReadback_eq_iff _ _ _).2 (controlWord_dwField c r)

@[simp] theorem syncReadback_controlWord (c : Cfg) (r : RegFile) : syncReadback c (controlWord c r) = r.sync :=
  (syncReadback_eq_iff _ _ _).2 (controlWord_syncField c r)

/-- Settles O12: the readbacks of an encoded control word, and the relay field of an encoded relay word. -/
theorem echoRoundTrip : Obligations.EchoRoundTrip := by
  intro c r e p hcontrol hrelay
  simp [decodeStatus, hcontrol, hrelay, relayWord_relayField]

/-! ## Injectivity of the encoder (R118) -/

theorem ctCode_injective {c : Cfg} (h : c.codesWf = true) : Function.Injective (ctCode c) := by
  simp only [Cfg.codesWf, Bool.and_eq_true, bne_iff_ne] at h
  obtain ⟨⟨⟨hwr, hwc⟩, hrc⟩, -⟩ := h
  intro t t' heq
  cases t <;> cases t' <;> simp_all [ctCode]

/-- The register file is read back from its control and relay words: CT by its distinct code, the counter and MID as fields, the rest by
the decode. -/
theorem regFile_eq_of_words {c : Cfg} (hc : c.codesWf = true) {r r' : RegFile} (hcontrol : controlWord c r = controlWord c r')
    (hrelay : relayWord c r = relayWord c r') : r = r' := by
  have hct : r.ct = r'.ct := ctCode_injective hc (by rw [← controlWord_ctField, hcontrol, controlWord_ctField])
  have hmid : r.mid = r'.mid := by rw [← controlWord_midField c, hcontrol, controlWord_midField]
  have hthr : r.thr = r'.thr := by rw [← thrReadback_controlWord c, hcontrol, thrReadback_controlWord]
  have hdw : r.dw = r'.dw := by rw [← dwReadback_controlWord c, hcontrol, dwReadback_controlWord]
  have hsync : r.sync = r'.sync := by rw [← syncReadback_controlWord c, hcontrol, syncReadback_controlWord]
  have hsh : r.sh.setWidth 8 = r'.sh.setWidth 8 := by rw [← controlWord_shField c, hcontrol, controlWord_shField]
  have hrly : r.rly = r'.rly := by rw [← relayWord_relayField c, hrelay, relayWord_relayField]
  have hcount : r.sh = r'.sh := by simpa using congrArg (BitVec.setWidth 7) hsh
  cases r
  cases r'
  simp_all

/-- Settles O6: equal frames have equal control and relay words, and these determine the register file. -/
theorem encodeIsInjective : Obligations.EncodeIsInjective := fun _ _ _ hc hne heq =>
  hne (regFile_eq_of_words hc (congrArg Frame.control heq) (congrArg Frame.relay heq))

end Sys2Proof.Proofs
end

section
/-! PROOF. The command table of 41_command_table.md: which index a lookup finds (R145 to R148), what a well-formed table holds (R144), and
the configurations that boot (R5, R283). -/

namespace Sys2Proof.Proofs

open Sys2Proof Sys2Proof.Machine

/-! ## The entry at an index -/

/-- The entry at `i` is a command, and `line` is its name. -/
def CommandNamed (rom : List Entry) (line : List Byte) (i : Nat) : Prop :=
  ∃ e, rom[i]? = some e ∧ e.opk ≠ Opk.endCode ∧ e.name = line

/-- The entry at `i` is a command, and `line` is not its name: the scan of R145 goes on. -/
def CommandNotNamed (rom : List Entry) (line : List Byte) (i : Nat) : Prop :=
  ∃ e, rom[i]? = some e ∧ e.opk ≠ Opk.endCode ∧ e.name ≠ line

/-- The entry at `i` is the first with the name `line`, and no sentinel stands before it. -/
def FirstMatch (rom : List Entry) (line : List Byte) (i : Nat) : Prop :=
  CommandNamed rom line i ∧ ∀ j, j < i → CommandNotNamed rom line j

theorem commandNamed_cons_zero (e : Entry) (rest : List Entry) (line : List Byte) :
    CommandNamed (e :: rest) line 0 ↔ e.opk ≠ Opk.endCode ∧ e.name = line := by simp [CommandNamed]

theorem commandNotNamed_cons_zero (e : Entry) (rest : List Entry) (line : List Byte) :
    CommandNotNamed (e :: rest) line 0 ↔ e.opk ≠ Opk.endCode ∧ e.name ≠ line := by simp [CommandNotNamed]

theorem not_firstMatch_nil (line : List Byte) (i : Nat) : ¬ FirstMatch [] line i := by simp [FirstMatch, CommandNamed]

theorem firstMatch_cons_zero (e : Entry) (rest : List Entry) (line : List Byte) :
    FirstMatch (e :: rest) line 0 ↔ e.opk ≠ Opk.endCode ∧ e.name = line := by
  simp [FirstMatch, commandNamed_cons_zero]

theorem firstMatch_cons_succ (e : Entry) (rest : List Entry) (line : List Byte) (i : Nat) :
    FirstMatch (e :: rest) line (i + 1) ↔ (e.opk ≠ Opk.endCode ∧ e.name ≠ line) ∧ FirstMatch rest line i := by
  rw [← commandNotNamed_cons_zero e rest line]
  constructor
  · rintro ⟨hat, hbefore⟩
    exact ⟨hbefore 0 i.succ_pos, hat, fun j hj => hbefore (j + 1) (Nat.succ_lt_succ hj)⟩
  · rintro ⟨hhead, hat, hbefore⟩
    refine ⟨hat, fun j hj => ?_⟩
    cases j with
    | zero => exact hhead
    | succ j => exact hbefore j (Nat.lt_of_succ_lt_succ hj)

/-! ## The scan (R145, R148) -/

/-- A scan that begins at index `n` finds the first match of the entries it is given, `n` places on. -/
theorem lookupFrom_eq_some_iff (rom : List Entry) (line : List Byte) (n i : Nat) :
    lookupFrom n rom line = some (n + i) ↔ FirstMatch rom line i := by
  induction rom generalizing n i with
  | nil => simp [not_firstMatch_nil]
  | cons e rest ih =>
    by_cases hend : e.opk = Opk.endCode
    · rw [lookupFrom_sentinel n rest line hend]
      cases i with
      | zero => simp [firstMatch_cons_zero, hend]
      | succ i => simp [firstMatch_cons_succ, hend]
    · by_cases hname : e.name = line
      · subst hname
        rw [lookupFrom_hit n rest hend]
        cases i with
        | zero => simp [firstMatch_cons_zero, hend]
        | succ i => simp [firstMatch_cons_succ]
      · rw [lookupFrom_miss n rest hend hname]
        cases i with
        | zero =>
          have hpast : lookupFrom (n + 1) rest line ≠ some n := fun h => absurd (lookupFrom_ge h) (by omega)
          simp [firstMatch_cons_zero, hname, hpast]
        | succ i =>
          rw [firstMatch_cons_succ, show n + (i + 1) = n + 1 + i by omega, ih]
          exact (and_iff_right ⟨hend, hname⟩).symm

theorem lookup_eq_some_iff (rom : List Entry) (line : List Byte) (i : Nat) : lookup rom line = some i ↔ FirstMatch rom line i := by
  simpa [lookup] using lookupFrom_eq_some_iff rom line 0 i

/-- Settles O14: the scan from index 0. -/
theorem lookupIsFirstMatch : Obligations.LookupIsFirstMatch := lookup_eq_some_iff

/-! ## The clauses of R144 -/

theorem sentinelLast_iff (rom : List Entry) : Rom.sentinelLast rom = true ↔ rom.getLast? = some ⟨[], Opk.endCode⟩ := beq_iff_eq

theorem entriesNamed_iff (rom : List Entry) :
    Rom.entriesNamed rom = true ↔
      ∀ i e, i + 1 < rom.length → rom[i]? = some e → e.name ≠ [] ∧ e.opk ≠ Opk.endCode := by
  have hentry : ∀ e : Entry, (!e.name.isEmpty && e.opk != Opk.endCode) = true ↔ e.name ≠ [] ∧ e.opk ≠ Opk.endCode := by simp
  simp only [Rom.entriesNamed, List.all_eq_true, hentry, List.mem_iff_getElem?, List.getElem?_dropLast]
  constructor
  · intro h i e hi he
    exact h e ⟨i, by rw [if_pos (by omega), he]⟩
  · rintro h e ⟨i, hi⟩
    split_ifs at hi with hlt
    exact h i e (by omega) hi

theorem namesDistinct_iff (rom : List Entry) : Rom.namesDistinct rom = true ↔ (rom.map Entry.name).Nodup := decide_eq_true_iff

theorem isReserved_iff (k : Opk) : Opk.isReserved k = true ↔ k = 0x00 ∨ (0x17 ≤ k.toNat ∧ k.toNat ≤ 0x1E) := by
  simp [Opk.isReserved, BitVec.le_def]

theorem noReserved_iff (rom : List Entry) :
    Rom.noReserved rom = true ↔ ∀ e ∈ rom, e.opk ≠ 0x00 ∧ ¬ (0x17 ≤ e.opk.toNat ∧ e.opk.toNat ≤ 0x1E) := by
  simp only [Rom.noReserved, List.all_eq_true, Bool.not_eq_true', ← Bool.not_eq_true, isReserved_iff, not_or, ne_eq]

theorem namesFit_iff (lineMax : Nat) (rom : List Entry) :
    Rom.namesFit lineMax rom = true ↔ ∀ e ∈ rom, e.name.length ≤ lineMax ∧ 0x0D ∉ e.name ∧ 0x0A ∉ e.name := by
  have hbytes : ∀ name : List Byte, (name.all fun b => b != 0x0D && b != 0x0A) = true ↔ 0x0D ∉ name ∧ 0x0A ∉ name := by
    simp only [List.all_eq_true, Bool.and_eq_true, bne_iff_ne]
    exact fun name => ⟨fun h => ⟨fun hcr => (h _ hcr).1 rfl, fun hlf => (h _ hlf).2 rfl⟩,
      fun h b hb => ⟨fun hcr => h.1 (hcr ▸ hb), fun hlf => h.2 (hlf ▸ hb)⟩⟩
  simp only [Rom.namesFit, List.all_eq_true, Bool.and_eq_true, decide_eq_true_eq, hbytes]

/-- A well-formed table has all five properties of R144. -/
theorem romWf_iff (lineMax : Nat) (rom : List Entry) :
    Rom.wf lineMax rom = true ↔
      Rom.sentinelLast rom = true ∧ Rom.entriesNamed rom = true ∧ Rom.namesDistinct rom = true ∧ Rom.noReserved rom = true ∧
      Rom.namesFit lineMax rom = true := by
  simp only [Rom.wf, Bool.and_eq_true, and_assoc]

/-! ## Lookup on a table that meets R144 -/

/-- A command is not the table's last entry, which is the sentinel. -/
theorem command_before_last {rom : List Entry} (hlast : Rom.sentinelLast rom = true) {i : Nat} {e : Entry} (he : rom[i]? = some e)
    (hcmd : e.opk ≠ Opk.endCode) : i + 1 < rom.length := by
  have hi : i < rom.length := (List.getElem?_eq_some_iff.1 he).1
  by_contra hge
  rw [sentinelLast_iff, List.getLast?_eq_getElem?, show rom.length - 1 = i by omega, he] at hlast
  exact hcmd (congrArg Entry.opk (Option.some.inj hlast))

theorem index_eq_of_name_eq {rom : List Entry} (hdistinct : Rom.namesDistinct rom = true) {i j : Nat} {e e' : Entry}
    (he : rom[i]? = some e) (he' : rom[j]? = some e') (hname : e.name = e'.name) : i = j := by
  have hi : i < (rom.map Entry.name).length := by simpa using (List.getElem?_eq_some_iff.1 he).1
  exact (List.getElem?_inj hi ((namesDistinct_iff rom).1 hdistinct)).1 (by simp [he, he', hname])

/-- Where names are distinct and no sentinel stands before the last entry, any match is the first. -/
theorem firstMatch_of_commandNamed {rom : List Entry} {line : List Byte} {i : Nat} (hlast : Rom.sentinelLast rom = true)
    (hnamed : Rom.entriesNamed rom = true) (hdistinct : Rom.namesDistinct rom = true) (h : CommandNamed rom line i) :
    FirstMatch rom line i := by
  refine ⟨h, fun j hj => ?_⟩
  obtain ⟨e, he, hcmd, hname⟩ := h
  have hi : i + 1 < rom.length := command_before_last hlast he hcmd
  have hat : rom[j]? = some rom[j] := List.getElem?_eq_getElem (by omega)
  have hjcmd : rom[j].opk ≠ Opk.endCode := ((entriesNamed_iff rom).1 hnamed j _ (by omega) hat).2
  have hjname : rom[j].name ≠ line := fun heq => hj.ne (index_eq_of_name_eq hdistinct hat he (heq.trans hname.symm))
  exact ⟨_, hat, hjcmd, hjname⟩

/-- Settles O13: a lookup finds the first match, and on such a table any match is the first. -/
theorem lookupFindsTheNamedEntry : Obligations.LookupFindsTheNamedEntry := fun rom line i hlast hnamed hdistinct =>
  (lookup_eq_some_iff rom line i).trans ⟨And.left, firstMatch_of_commandNamed hlast hnamed hdistinct⟩

/-- Settles O15: a match of the empty line would be a command with an empty name, and R144 (a) and (b) leave none. -/
theorem emptyLineNeverMatches : Obligations.EmptyLineNeverMatches := by
  intro lineMax rom hwf
  obtain ⟨hlast, hnamed, -⟩ := (romWf_iff lineMax rom).1 hwf
  refine Option.eq_none_iff_forall_ne_some.2 fun i hfound => ?_
  obtain ⟨⟨e, he, hcmd, hempty⟩, -⟩ := (lookup_eq_some_iff rom [] i).1 hfound
  have hi : i + 1 < rom.length := command_before_last hlast he hcmd
  exact ((entriesNamed_iff rom).1 hnamed i e hi he).1 hempty

/-! ## The constraints on a configuration (R5, R51, R55, R70, R83) -/

theorem codesWf_iff (c : Cfg) :
    c.codesWf = true ↔
      c.ctWrite ≠ c.ctRead ∧ c.ctWrite ≠ c.ctCpld ∧ c.ctRead ≠ c.ctCpld ∧ (c.ctCpld = 0b00 ∨ c.ctCpld = 0b11) := by
  simp only [Cfg.codesWf, Bool.and_eq_true, Bool.or_eq_true, bne_iff_ne, beq_iff_eq, and_assoc]

theorem flagsWf_iff (c : Cfg) :
    c.flagsWf = true ↔
      (c.pFe ≠ c.pCe ∧ c.pFe ≠ c.pRr ∧ c.pFe ≠ c.pCoil ∧ c.pCe ≠ c.pRr ∧ c.pCe ≠ c.pCoil ∧ c.pRr ≠ c.pCoil) ∧
      ∀ p, p = c.pFe ∨ p = c.pCe ∨ p = c.pRr ∨ p = c.pCoil → p.val < 8 ∨ 11 < p.val := by
  have hdistinct : [c.pFe, c.pCe, c.pRr, c.pCoil].Nodup ↔
      c.pFe ≠ c.pCe ∧ c.pFe ≠ c.pRr ∧ c.pFe ≠ c.pCoil ∧ c.pCe ≠ c.pRr ∧ c.pCe ≠ c.pCoil ∧ c.pRr ≠ c.pCoil := by
    simp [and_assoc]
  have hmem : ∀ p, p ∈ [c.pFe, c.pCe, c.pRr, c.pCoil] ↔ p = c.pFe ∨ p = c.pCe ∨ p = c.pRr ∨ p = c.pCoil := by simp
  simp only [Cfg.flagsWf, Bool.and_eq_true, List.all_eq_true, decide_eq_true_eq, hdistinct, hmem]

theorem lineMaxWf_iff (c : Cfg) : c.lineMaxWf = true ↔ 1 ≤ c.lineMax := decide_eq_true_iff

theorem aligned_iff (c : Cfg) : c.aligned = true ↔ c.cmdBase % 4 = 0 ∧ c.statusBase % 4 = 0 ∧ c.cpldBase % 4 = 0 := by
  simp only [Cfg.aligned, Bool.and_eq_true, beq_iff_eq, and_assoc]

theorem cpldApart_iff (c : Cfg) :
    c.cpldApart = true ↔ c.cpldBase + 16 ≤ c.statusBase ∨ c.statusBase + 28 ≤ c.cpldBase + 8 := decide_eq_true_iff

theorem cfgWf_iff (c : Cfg) :
    c.wf = true ↔
      c.codesWf = true ∧ c.flagsWf = true ∧ c.lineMaxWf = true ∧ c.aligned = true ∧ c.cpldApart = true ∧
      Rom.wf c.lineMax c.cmdRom = true := by
  simp only [Cfg.wf, Bool.and_eq_true, and_assoc]

/-! ## Boot (R283) -/

theorem boot_of_wf {c : Cfg} (h : c.wf = true) : boot c = .next (State.resetWith c) := if_pos h

theorem boot_of_not_wf {c : Cfg} (h : c.wf = false) : boot c = .refused .badConfig := if_neg (Bool.eq_false_iff.1 h)

theorem boot_eq_next {c : Cfg} {s : State} (h : boot c = .next s) : c.wf = true ∧ s = State.resetWith c := by
  cases hwf : c.wf with
  | true => exact ⟨rfl, Host.Outcome.next.inj (h.symm.trans (boot_of_wf hwf))⟩
  | false => exact nomatch (boot_of_not_wf hwf).symm.trans h

/-- Settles O16: what boots is well formed, and each clause of well-formedness is the constraint it stands for. -/
theorem bootAdmitsWellFormedOnly : Obligations.BootAdmitsWellFormedOnly := by
  refine ⟨fun c s hboot => ?_, fun c => boot_of_wf, fun c => boot_of_not_wf⟩
  obtain ⟨hwf, hreset⟩ := boot_eq_next hboot
  obtain ⟨hcodes, hflags, hline, haligned, hapart, hrom⟩ := (cfgWf_iff c).1 hwf
  obtain ⟨hlast, hnamed, hdistinct, hreserved, hfit⟩ := (romWf_iff c.lineMax c.cmdRom).1 hrom
  obtain ⟨hwr, hwc, hrc, hcpld⟩ := (codesWf_iff c).1 hcodes
  obtain ⟨hpositions, hoffThreshold⟩ := (flagsWf_iff c).1 hflags
  obtain ⟨hcmdBase, hstatusBase, hcpldBase⟩ := (aligned_iff c).1 haligned
  exact ⟨hreset, (sentinelLast_iff _).1 hlast, (entriesNamed_iff _).1 hnamed, (namesDistinct_iff _).1 hdistinct,
    (noReserved_iff _).1 hreserved, (namesFit_iff _ _).1 hfit, hcmdBase, hstatusBase, hcpldBase, hwr, hwc, hrc, hcpld, hpositions,
    hoffThreshold, (lineMaxWf_iff c).1 hline, (cpldApart_iff c).1 hapart⟩

end Sys2Proof.Proofs
end

section
/-! PROOF. The dispatcher of 42_dispatch.md: mutation, counter, frame and requests of every operation kind (R163 to R166), that Step and
Apply read nothing but register file, input and configuration (R168), how a command's step comes to its operation (R161, R162, R169), and
that a failed link access rolls nothing back (R167). -/

namespace Sys2Proof.Proofs

open Sys2Proof Sys2Proof.Machine Sys2Proof.Safety

/-! ## The mutations on the register file (R163) -/

@[simp] theorem writeThreshold_st (v : Threshold) (s : State) : (writeThreshold v s).st = { s.st with ct := .write, thr := v } := rfl
@[simp] theorem writeDryWet_st (d : DryWet) (s : State) : (writeDryWet d s).st = { s.st with ct := .write, dw := d } := rfl
@[simp] theorem writeSync_st (m : SyncMode) (s : State) : (writeSync m s).st = { s.st with ct := .write, sync := m } := rfl
@[simp] theorem writeRelays_st (v : BitVec 5) (s : State) : (writeRelays v s).st = { s.st with ct := .write, rly := v } := rfl
@[simp] theorem toggleRelay_st (r : Relay) (s : State) :
    (toggleRelay r s).st = { s.st with ct := .write, rly := s.st.rly ^^^ relayMask r } := rfl
@[simp] theorem asQuery_st (c : CmdType) (s : State) : (asQuery c s).st = { s.st with ct := c } := rfl

/-- The counter update reads `CT`, `SYNC` and `SH` of the register file (R164). -/
theorem counterUpdate_st (s : State) :
    (counterUpdate s).st =
      { s.st with sh := if s.st.ct = .read then s.st.sh else if s.st.sync = .sync then 0 else nextCount s.st.sh } := by
  rw [counterUpdate_eq]
  rfl

/-- `CT` is the class's (R91, R163). -/
theorem mutated_ct (i : Instr) (s : State) :
    (mutated i s).ct =
      match opkClass i with
      | .write => .write
      | .query => if i = .qCpld then .cpldRevisionQuery else .read
      | .metaCommand | .reserved | .sentinel => s.ct := by
  cases i <;> rfl

theorem mutated_ct_of_write {i : Instr} (h : opkClass i = .write) (s : State) : (mutated i s).ct = .write := by
  rw [mutated_ct, h]

theorem mutated_ct_of_query {i : Instr} (h : opkClass i = .query) (s : State) :
    (mutated i s).ct = if i = .qCpld then .cpldRevisionQuery else .read := by
  rw [mutated_ct, h]

theorem isDispatching_iff (i : Instr) : isDispatching i = true ↔ opkClass i = .write ∨ opkClass i = .query := by
  simp [isDispatching]

/-! ## What a dispatching transaction leaves (R164, R165) -/

theorem exec_dispatching_next {i : Instr} {s t : State} (hd : isDispatching i = true) (h : exec i s = .next t) :
    ∃ o : Out, t = setOut (counterUpdate (mutated i s)) o ∧
      o.frame = some (encodeFrame s.cfg (counterUpdate (mutated i s)).st) := by
  obtain ⟨-, o, ht, hframe, -⟩ | ⟨hnot, -⟩ := exec_cases i s t h
  · exact ⟨o, ht, hframe⟩
  · simp [hd] at hnot

/-- Settles O29: the counter update's three cases, on the counter that the mutation left alone. -/
theorem counterRule : Obligations.CounterRule := by
  intro i s t hd h
  obtain ⟨o, rfl, -⟩ := exec_dispatching_next hd h
  obtain ⟨-, hsh, -⟩ := mutated_frame i s
  simp only [setOut_ct, setOut_sync, setOut_sh, counterUpdate_ct, counterUpdate_sync, counterUpdate_sh, hsh]
  refine ⟨fun hread => ?_, fun hread hsync => ?_, fun hread hsync => ?_⟩
  · rw [if_pos hread]
  · rw [if_neg hread, if_pos hsync]
  · rw [if_neg hread, if_neg (by simp [hsync]), nextCount_toNat]

/-- Settles O30: the frame is that of the state the counter update left, and `CT` that of the mutation. -/
theorem frameEncodesTheNewState : Obligations.FrameEncodesTheNewState := by
  intro i s t hd h
  obtain ⟨o, rfl, hframe⟩ := exec_dispatching_next hd h
  obtain ⟨hcfg, -⟩ := mutated_frame i s
  simp only [setOut_out, setOut_cfg, setOut_st, setOut_ct, counterUpdate_cfg, counterUpdate_ct, hcfg]
  exact ⟨hframe, fun hw => mutated_ct_of_write hw s, fun hq => mutated_ct_of_query hq s⟩

/-! ## The host requests (R166) -/

theorem requestsOf_of_not_dispatching {i : Instr} (h : isDispatching i = false) : requestsOf i = noRequests := by
  cases i <;> simp [isDispatching, opkClass, requestsOf] at h ⊢

theorem exec_requests {i : Instr} {s t : State} (h : exec i s = .next t) :
    t.out.pendingRead = (requestsOf i).pendingRead ∧ t.out.readCpld = (requestsOf i).readCpld ∧
      t.out.resetReq = (requestsOf i).resetReq := by
  obtain ⟨-, o, rfl, -, -, -, hp, hc, hr, -⟩ | ⟨hd, o, rfl, -, hnone⟩ := exec_cases i s t h
  · exact ⟨hp, hc, hr⟩
  · rw [requestsOf_of_not_dispatching hd]
    exact hnone

theorem requestsOf_pendingRead (i : Instr) :
    (requestsOf i).pendingRead = true ↔ i = .qThr ∨ i = .qRd ∨ i = .qFull ∨ i = .qCpld := by
  cases i <;> decide

theorem requestsOf_readCpld (i : Instr) : (requestsOf i).readCpld = true ↔ i = .qFull ∨ i = .qCpld := by
  cases i <;> decide

theorem requestsOf_resetReq (i : Instr) : (requestsOf i).resetReq = true ↔ i = .qCpld := by
  cases i <;> decide

/-- Settles O31: the record's requests are the kind's row of R166. -/
theorem hostRequestTable : Obligations.HostRequestTable := by
  intro i s t h
  obtain ⟨hp, hc, hr⟩ := exec_requests h
  rw [hp, hc, hr]
  exact ⟨requestsOf_pendingRead i, requestsOf_readCpld i, requestsOf_resetReq i⟩

/-! ## The writers of each register (42_dispatch.md section 4) -/

theorem thr_writer {i : Instr} {s : State} (h : (mutated i s).thr ≠ s.thr) :
    i = .thr17 ∨ i = .thr33 ∨ i = .thr84 ∨ i = .thr166 := by
  cases i <;> simp [mutated] at h ⊢

theorem dw_writer {i : Instr} {s : State} (h : (mutated i s).dw ≠ s.dw) : i = .setDry ∨ i = .setWet := by
  cases i <;> simp [mutated] at h ⊢

theorem sync_writer {i : Instr} {s : State} (h : (mutated i s).sync ≠ s.sync) : i = .syncOn ∨ i = .syncOff := by
  rw [mutated_sync] at h
  split_ifs at h with hon hoff
  · exact .inl hon
  · exact .inr hoff
  · exact absurd rfl h

theorem rly_writer {i : Instr} {s : State} (h : (mutated i s).rly ≠ s.rly) :
    i = .tglAA ∨ i = .tglAB ∨ i = .tglCA ∨ i = .tglCB ∨ i = .tglCC ∨ i = .rlyOn ∨ i = .rlyOff := by
  cases i <;> simp [mutated] at h ⊢

/-- A query other than QCPLD ends in a Read transaction, and that one leaves the counter alone. -/
theorem sh_writer {i : Instr} {s : State} (hd : isDispatching i = true) (h : (counterUpdate (mutated i s)).sh ≠ s.sh) :
    opkClass i = .write ∨ i = .qCpld := by
  refine ((isDispatching_iff i).1 hd).imp_right fun hquery => ?_
  by_contra hcpld
  have hread : (mutated i s).ct = .read := by rw [mutated_ct_of_query hquery, if_neg hcpld]
  obtain ⟨-, hsh, -⟩ := mutated_frame i s
  rw [counterUpdate_sh, if_pos hread] at h
  exact h hsh

/-- Settles O32: a kind that does not dispatch writes no register, and of the others each register has its own writers. -/
theorem registerWriters : Obligations.RegisterWriters := by
  intro i s t h
  obtain ⟨hd, o, rfl, -⟩ | ⟨-, o, rfl, -⟩ := exec_cases i s t h
  · obtain ⟨hcfg, -⟩ := mutated_frame i s
    simp only [setOut_thr, setOut_dw, setOut_sync, setOut_rly, setOut_sh, counterUpdate_thr, counterUpdate_dw,
      counterUpdate_sync, counterUpdate_rly]
    exact ⟨thr_writer, dw_writer, sync_writer, rly_writer, fun _ => hd, sh_writer hd, by simp [hcfg]⟩
  · simp

/-! ## The kinds that send no frame, by class (R240, R244) -/

theorem exec_of_metaCommand {i : Instr} (h : opkClass i = .metaCommand) : ∃ m, ∀ s, exec i s = metaStep i m s := by
  cases i with
  | mHelp => exact ⟨.help, fun _ => rfl⟩
  | mExit => exact ⟨.exit, fun _ => rfl⟩
  | mDebug => exact ⟨.debug, fun _ => rfl⟩
  | _ => simp [opkClass] at h

theorem exec_of_reserved {i : Instr} (h : opkClass i = .reserved) (s : State) : exec i s = raiseBadOpk i s := by
  cases i <;> simp [opkClass] at h <;> rfl

theorem exec_of_sentinel {i : Instr} (h : opkClass i = .sentinel) (s : State) : exec i s = raise .badIndex none none s := by
  cases i with
  | endMark => rfl
  | _ => simp [opkClass] at h

/-! ## Step and Apply read register file, input and configuration only (R168) -/

/-- Both outcomes are next states, with equal register files and equal output records. -/
def SameAnswer (a a' : Outcome) : Prop := ∃ t t', a = .next t ∧ a' = .next t' ∧ t.st = t'.st ∧ t.out = t'.out

theorem sameAnswer_setOut {s s' : State} (hst : s.st = s'.st) {o o' : Out} (ho : o = o') :
    SameAnswer (.next (setOut s o)) (.next (setOut s' o')) := ⟨_, _, rfl, rfl, hst, ho⟩

theorem raise_sameAnswer {s s' : State} (hst : s.st = s'.st) (e : Err) (index : Option Nat) (opk : Option Opk) :
    SameAnswer (raise e index opk s) (raise e index opk s') := sameAnswer_setOut hst rfl

theorem mutated_st_congr (i : Instr) {s s' : State} (hst : s.st = s'.st) : (mutated i s).st = (mutated i s').st := by
  cases i <;> simp [mutated, hst]

theorem counterUpdate_st_congr {s s' : State} (hst : s.st = s'.st) : (counterUpdate s).st = (counterUpdate s').st := by
  rw [counterUpdate_st, counterUpdate_st, hst]

theorem dispatch_sameAnswer (i : Instr) (q : Requests) {s s' : State} (hcfg : s.cfg = s'.cfg) (hst : s.st = s'.st)
    (hindex : s.out.index = s'.out.index) : SameAnswer (dispatch i q s) (dispatch i q s') := by
  have hcounted : (counterUpdate s).st = (counterUpdate s').st := counterUpdate_st_congr hst
  rw [dispatch_eq, dispatch_eq]
  exact sameAnswer_setOut hcounted (by rw [hcfg, hcounted, hindex])

/-- Of the record before it an instruction reads the index the fetch has set, and nothing else. -/
theorem exec_sameAnswer (i : Instr) {s s' : State} (hcfg : s.cfg = s'.cfg) (hst : s.st = s'.st)
    (hindex : s.out.index = s'.out.index) : SameAnswer (exec i s) (exec i s') := by
  have dispatching_case (hd : isDispatching i = true) : SameAnswer (exec i s) (exec i s') := by
    obtain ⟨hc, -, ho, -⟩ := mutated_frame i s
    obtain ⟨hc', -, ho', -⟩ := mutated_frame i s'
    rw [exec_dispatching i hd, exec_dispatching i hd]
    exact dispatch_sameAnswer i _ (by rw [hc, hc', hcfg]) (mutated_st_congr i hst) (by rw [ho, ho', hindex])
  cases hclass : opkClass i with
  | write => exact dispatching_case ((isDispatching_iff i).2 (.inl hclass))
  | query => exact dispatching_case ((isDispatching_iff i).2 (.inr hclass))
  | metaCommand =>
    obtain ⟨m, hm⟩ := exec_of_metaCommand hclass
    rw [hm, hm]
    exact sameAnswer_setOut hst (by rw [hindex])
  | reserved =>
    rw [exec_of_reserved hclass, exec_of_reserved hclass, raiseBadOpk, raiseBadOpk, hindex]
    exact raise_sameAnswer hst _ _ _
  | sentinel =>
    rw [exec_of_sentinel hclass, exec_of_sentinel hclass]
    exact raise_sameAnswer hst _ _ _

theorem applyIndex_of_none {i : Nat} {s : State} (h : entryOpk s.cfg.cmdRom i = none) :
    applyIndex i s = raise .badIndex none none s := by simp [applyIndex, h]

theorem applyIndex_of_some {i : Nat} {k : Opk} {s : State} (h : entryOpk s.cfg.cmdRom i = some k) :
    applyIndex i s = exec (decodeOpk k) (fetched i k s) := by simp [applyIndex, h]

theorem applyLine_of_none {line : List Byte} {s : State} (h : lookup s.cfg.cmdRom line = none) :
    applyLine line s = raise .notFound none none s := by simp [applyLine, h]

theorem applyLine_of_some {line : List Byte} {i : Nat} {s : State} (h : lookup s.cfg.cmdRom line = some i) :
    applyLine line s = applyIndex i s := by simp [applyLine, h]

theorem applyIndex_sameAnswer (i : Nat) {s s' : State} (hcfg : s.cfg = s'.cfg) (hst : s.st = s'.st) :
    SameAnswer (applyIndex i s) (applyIndex i s') := by
  cases h : entryOpk s.cfg.cmdRom i with
  | none =>
    rw [applyIndex_of_none h, applyIndex_of_none (hcfg ▸ h)]
    exact raise_sameAnswer hst _ _ _
  | some k =>
    rw [applyIndex_of_some h, applyIndex_of_some (hcfg ▸ h)]
    exact exec_sameAnswer _ hcfg hst rfl

theorem applyLine_sameAnswer (line : List Byte) {s s' : State} (hcfg : s.cfg = s'.cfg) (hst : s.st = s'.st) :
    SameAnswer (applyLine line s) (applyLine line s') := by
  cases h : lookup s.cfg.cmdRom line with
  | none =>
    rw [applyLine_of_none h, applyLine_of_none (hcfg ▸ h)]
    exact raise_sameAnswer hst _ _ _
  | some i =>
    rw [applyLine_of_some h, applyLine_of_some (hcfg ▸ h)]
    exact applyIndex_sameAnswer i hcfg hst

/-- Settles O34: the two runs find the same entry, start its operation from the same index, and end alike. -/
theorem stepAndApplyArePure : Obligations.StepAndApplyArePure := fun _ _ hcfg hst =>
  ⟨fun line => applyLine_sameAnswer line hcfg hst, fun i => applyIndex_sameAnswer i hcfg hst⟩

/-! ## A command's step (R161, R162, R169) -/

theorem whenReady_of_ready {s : State} (h : commandReady s = true) (o : Outcome) : whenReady s o = o := if_pos h

theorem eventStep_index_of_ready {i : Nat} {s : State} (h : commandReady s = true) : eventStep (.index i) s = applyIndex i s :=
  whenReady_of_ready h _

theorem eventStep_line_of_found {text : List Byte} {i : Nat} {s : State} (h : lookup s.cfg.cmdRom text = some i) :
    eventStep (.line text) s = eventStep (.index i) s := congrArg (whenReady s) (applyLine_of_some h)

theorem eventStep_console (text : List Byte) (s : State) :
    eventStep (.console text) s = eventStep (.line (text.take s.cfg.lineMax)) s := rfl

/-- An instruction that ends in an error or a meta code leaves the registers, and sends and requests nothing. -/
theorem exec_keeps_registers {i : Instr} {s t : State} (h : exec i s = .next t) (hres : t.out.err ≠ .ok ∨ t.out.metaCode ≠ .none) :
    t.st = s.st ∧ t.out.frame = none ∧ t.out.pendingRead = false ∧ t.out.readCpld = false ∧ t.out.resetReq = false := by
  obtain ⟨-, o, rfl, -, herr, hmeta, -⟩ | ⟨-, o, rfl, hnothing⟩ := exec_cases i s t h
  · simp [herr, hmeta] at hres
  · exact ⟨rfl, hnothing⟩

/-- Settles O39: a command is an error result on the state as it was, or one instruction. -/
theorem errorsAndMetaKeepRegisters : Obligations.ErrorsAndMetaKeepRegisters := by
  intro s t hnext h hres
  obtain ⟨hi, -⟩ | ⟨e, rest, hi, he⟩ := step_cases h
  · simp [commandNext, hi] at hnext
  · obtain ⟨rfl, -⟩ | ⟨err, -, rfl⟩ | ⟨j, k, -, hx⟩ | ⟨act, rfl, -⟩ | ⟨slot, v, rfl, -⟩ := eventStep_cases he
    · simp [commandNext, hi] at hnext
    · exact ⟨rfl, rfl, rfl, rfl, rfl⟩
    · exact exec_keeps_registers (s := fetched j k { s with inbox := rest }) hx hres
    · simp [commandNext, hi] at hnext
    · simp [commandNext, hi] at hnext

/-- Settles O35: a ready index step is `Apply`, and its entry is a command. -/
theorem stepRunsTheDecodedOperation : Obligations.StepRunsTheDecodedOperation := by
  intro s i rest e hi hready he hcmd
  have hentry : entryOpk s.cfg.cmdRom i = some e.opk := entryOpk_eq_some.2 ⟨e, he, rfl, hcmd⟩
  calc step s = eventStep (.index i) { s with inbox := rest } := step_cons hi
    _ = applyIndex i { s with inbox := rest } := eventStep_index_of_ready hready
    _ = exec (decodeOpk e.opk) (fetched i e.opk { s with inbox := rest }) := applyIndex_of_some hentry

/-- Settles O36: the two events do the same on the state with the move taken off. -/
theorem lineStepsAreIndexSteps : Obligations.LineStepsAreIndexSteps := by
  intro s rest text
  refine ⟨fun i hi hfound => ?_, fun hi => ?_⟩
  · rw [step_cons hi, step_cons rfl]
    exact eventStep_line_of_found hfound
  · rw [step_cons hi, step_cons rfl]
    exact eventStep_console text _

/-! ## A failed link access (R167, R285) -/

theorem commandReady_of_abandoned {s : State} (h : s.txn.abandoned = true) : commandReady s = true := by
  simp [commandReady, h]

/-- Settles O51: giving up and sending again write the host's progress only, and a transaction given up lets the next command come. -/
theorem failedWriteRollsNothingBack : Obligations.FailedWriteRollsNothingBack := by
  intro s f hf
  have hframe : s.out.frame ≠ none := by simp [hf]
  exact ⟨_, giveUp_eq hframe, rfl, rfl, rfl, commandReady_of_abandoned rfl, _, resendFrame_eq hframe, rfl, rfl, rfl⟩

end Sys2Proof.Proofs
end

section
/-! PROOF. The write class of 43_write_commands.md: one rule for the end of every write (R162 to R167), that rule at each command (R180 to
R194), and what two toggles of one relay do (R188 to R192). -/

namespace Sys2Proof.Proofs

open Sys2Proof Sys2Proof.Machine Sys2Proof.Safety

/-! ## How a write ends (R162 to R167) -/

theorem requestsOf_of_write {i : Instr} (h : opkClass i = .write) : requestsOf i = noRequests := by
  cases i <;> simp [opkClass, requestsOf] at h ⊢

@[simp] theorem countedFrom_sync (sh : BitVec 7) : countedFrom .sync sh = 0 := rfl
@[simp] theorem countedFrom_noSync (sh : BitVec 7) : countedFrom .noSync sh = (sh.toNat + 1) % 128 := rfl

theorem counterUpdate_sh_toNat {m : State} (hct : m.ct = .write) : (counterUpdate m).sh.toNat = countedFrom m.sync m.sh := by
  rw [counterUpdate_sh, if_neg (by simp [hct])]
  cases m.sync with
  | sync => rfl
  | noSync => exact nextCount_toNat m.sh

/-- The counter, the record and the host's progress are all that the end of a transaction adds to the mutated state. -/
theorem setOut_counterUpdate (m : State) (o : Out) :
    setOut (counterUpdate m) o = { m with sh := (counterUpdate m).sh, out := o, txn := Txn.fresh } := by
  rw [counterUpdate_eq]
  rfl

/-- Every instruction of the write class completes its mutation. -/
theorem writeCompletes_mutated {i : Instr} (hwrite : opkClass i = .write) (s : State) : WriteCompletes i s (mutated i s) := by
  obtain ⟨-, hsh, hout, -⟩ := mutated_frame i s
  have hcount : (counterUpdate (mutated i s)).sh.toNat = countedFrom (mutated i s).sync s.sh := by
    rw [counterUpdate_sh_toNat (mutated_ct_of_write hwrite s), hsh]
  have hexec := exec_dispatching i ((isDispatching_iff i).2 (.inl hwrite)) s
  rw [dispatch_eq, requestsOf_of_write hwrite, hout] at hexec
  exact ⟨_, hexec, setOut_counterUpdate _ _, hcount, by simp [DispatchRecord, noRequests]⟩

/-! ## Thresholds, dry and wet, all relays (R180 to R185, R193, R194) -/

/-- Settles O17: each threshold set is a write, and its mutation is the one stated. -/
theorem thresholdSetResult : Obligations.ThresholdSetResult := fun s =>
  ⟨writeCompletes_mutated (i := .thr17) rfl s, writeCompletes_mutated (i := .thr33) rfl s,
    writeCompletes_mutated (i := .thr84) rfl s, writeCompletes_mutated (i := .thr166) rfl s⟩

/-- Settles O18, from the mutations of SETDRY and SETWET. -/
theorem dryWetSetResult : Obligations.DryWetSetResult := fun s =>
  ⟨writeCompletes_mutated (i := .setDry) rfl s, writeCompletes_mutated (i := .setWet) rfl s⟩

/-- Settles O21, from the mutations of RLYON and RLYOFF. -/
theorem allRelaysResult : Obligations.AllRelaysResult := fun s =>
  ⟨writeCompletes_mutated (i := .rlyOn) rfl s, writeCompletes_mutated (i := .rlyOff) rfl s⟩

/-! ## The sync mode (R186, R187) -/

theorem writeCompletes_counter {i : Instr} {s m : State} (h : WriteCompletes i s m) :
    ∃ t, exec i s = .next t ∧ t.sh.toNat = countedFrom m.sync s.sh := by
  obtain ⟨t, hexec, -, hcount, -⟩ := h
  exact ⟨t, hexec, hcount⟩

/-- Settles O19: the counter goes by the sync mode the mutation has just written. -/
theorem syncSetResult : Obligations.SyncSetResult := by
  intro s
  have hon : WriteCompletes .syncOn s (writeSync .sync s) := writeCompletes_mutated rfl s
  have hoff : WriteCompletes .syncOff s (writeSync .noSync s) := writeCompletes_mutated rfl s
  obtain ⟨t, hexec, hcount⟩ := writeCompletes_counter hon
  exact ⟨hon, hoff, ⟨t, hexec, BitVec.eq_of_toNat_eq hcount⟩, writeCompletes_counter hoff⟩

/-! ## The relay toggles (R188 to R192) -/

/-- The toggle of each relay. -/
def toggleInstr (r : Relay) : Instr :=
  match r with
  | .aa => .tglAA
  | .ab => .tglAB
  | .ca => .tglCA
  | .cb => .tglCB
  | .cc => .tglCC

theorem writeCompletes_toggle (r : Relay) (s : State) : WriteCompletes (toggleInstr r) s (toggleRelay r s) := by
  cases r <;> exact writeCompletes_mutated rfl s

/-- Settles O20: the five masks are the one-bit words at the five relay positions. -/
theorem relayToggleResult : Obligations.RelayToggleResult := fun s =>
  ⟨writeCompletes_toggle .aa s, writeCompletes_toggle .ab s, writeCompletes_toggle .ca s, writeCompletes_toggle .cb s,
    writeCompletes_toggle .cc s⟩

theorem relayMask_getLsbD (r : Relay) {j : Nat} (hj : j < 5) : (relayMask r).getLsbD j = decide (j = relayBit r) := by
  cases r <;> interval_cases j <;> rfl

theorem xor_relayMask_getLsbD (v : BitVec 5) (r : Relay) {j : Nat} (hj : j < 5) :
    (v ^^^ relayMask r).getLsbD j = if j = relayBit r then !v.getLsbD j else v.getLsbD j := by
  rw [BitVec.getLsbD_xor, relayMask_getLsbD r hj]
  split_ifs with h <;> simp [h]

theorem xor_relayMask_twice (v : BitVec 5) (r : Relay) : v ^^^ relayMask r ^^^ relayMask r = v := by
  rw [BitVec.xor_assoc, BitVec.xor_self, BitVec.xor_zero]

theorem exec_toggle (r : Relay) (s : State) :
    ∃ t, exec (toggleInstr r) s = .next t ∧ t.rly = s.rly ^^^ relayMask r ∧ t.sync = s.sync ∧
      t.sh.toNat = countedFrom s.sync s.sh := by
  obtain ⟨t, hexec, ht, hcount, -⟩ := writeCompletes_toggle r s
  exact ⟨t, hexec, (congrArg State.rly ht :), (congrArg State.sync ht :), hcount⟩

/-- Two writes in a row under one sync mode. -/
theorem countedFrom_twice {m : SyncMode} {sh sh' : BitVec 7} (h : sh'.toNat = countedFrom m sh) :
    countedFrom m sh' = if m = .sync then 0 else (sh.toNat + 2) % 128 := by
  cases m with
  | sync => rfl
  | noSync =>
    simp only [countedFrom_noSync] at h ⊢
    simp [h]

theorem exists_relay_of_toggle {i : Instr} {n : Nat}
    (h : (i = .tglAA ∧ n = 0) ∨ (i = .tglAB ∧ n = 1) ∨ (i = .tglCA ∧ n = 2) ∨ (i = .tglCB ∧ n = 3) ∨ (i = .tglCC ∧ n = 4)) :
    ∃ r, i = toggleInstr r ∧ n = relayBit r := by
  obtain h | h | h | h | h := h
  exacts [⟨.aa, h⟩, ⟨.ab, h⟩, ⟨.ca, h⟩, ⟨.cb, h⟩, ⟨.cc, h⟩]

/-- Settles O27: the second toggle meets the first one's relays, sync mode and counter, and the same mask twice cancels. -/
theorem relayToggleTwiceRestores : Obligations.RelayToggleTwiceRestores := by
  intro s i n h
  obtain ⟨r, rfl, rfl⟩ := exists_relay_of_toggle h
  obtain ⟨t, hexec, hrly, hsync, hcount⟩ := exec_toggle r s
  obtain ⟨u, hexec', hrly', -, hcount'⟩ := exec_toggle r t
  refine ⟨t, u, hexec, hexec', fun j hj => ?_, ?_, ?_⟩
  · rw [hrly, xor_relayMask_getLsbD s.rly r hj]
  · rw [hrly', hrly, xor_relayMask_twice]
  · rw [hcount', hsync, countedFrom_twice hcount]

end Sys2Proof.Proofs
end

section
/-! PROOF. The query class of 44_query_commands.md: one rule for the end of every query (R162 to R167), and what it says of the Read-class
queries (R220 to R222) and of QCPLD (R223), by whether the counter advances (R164). -/

namespace Sys2Proof.Proofs

open Sys2Proof Sys2Proof.Machine Sys2Proof.Safety

/-! ## How a query ends (R162 to R167) -/

theorem eq_of_query {i : Instr} (hquery : opkClass i = .query) : i = .qThr ∨ i = .qRd ∨ i = .qFull ∨ i = .qCpld := by
  cases i <;> simp [opkClass] at hquery ⊢

/-- A query writes `CT` and no other register (R163, R220 to R223). -/
theorem mutated_of_query {i : Instr} (hquery : opkClass i = .query) (s : State) :
    mutated i s = asQuery (if i = .qCpld then .cpldRevisionQuery else .read) s := by
  obtain rfl | rfl | rfl | rfl := eq_of_query hquery <;> rfl

/-- Every query asks for the status (R166). -/
theorem requestsOf_pendingRead_of_query {i : Instr} (hquery : opkClass i = .query) : (requestsOf i).pendingRead = true :=
  (requestsOf_pendingRead i).2 (eq_of_query hquery)

/-- Every instruction of the query class completes its mutation: the counter, the record and the host's progress are all it adds. -/
theorem query_completes {i : Instr} (hquery : opkClass i = .query) (s : State) :
    ∃ t, exec i s = .next t ∧ t = { mutated i s with sh := t.sh, out := t.out, txn := Txn.fresh } ∧
      t.sh = (counterUpdate (mutated i s)).sh ∧
      DispatchRecord i true (requestsOf i).readCpld (requestsOf i).resetReq s.out.index t := by
  obtain ⟨-, -, hout, -⟩ := mutated_frame i s
  have hexec := exec_dispatching i ((isDispatching_iff i).2 (.inr hquery)) s
  rw [dispatch_eq, requestsOf_pendingRead_of_query hquery, hout] at hexec
  exact ⟨_, hexec, setOut_counterUpdate _ _, rfl, by simp [DispatchRecord]⟩

/-! ## The Read-class queries (R220 to R222) -/

theorem counterUpdate_sh_of_read {m : State} (hct : m.ct = .read) : (counterUpdate m).sh = m.sh := by
  rw [counterUpdate_sh, if_pos hct]

/-- A query other than QCPLD is of the Read class: the counter stays and no pulse is requested (R164, R166). -/
theorem readQueryCompletes {i : Instr} (hquery : opkClass i = .query) (hread : i ≠ .qCpld) (s : State) :
    ReadQueryCompletes i (requestsOf i).readCpld s := by
  have hmut : mutated i s = asQuery .read s := by rw [mutated_of_query hquery, if_neg hread]
  have hreset : (requestsOf i).resetReq = false := Bool.eq_false_iff.2 fun h => hread ((requestsOf_resetReq i).1 h)
  obtain ⟨t, hexec, hstate, hsh, hrecord⟩ := query_completes hquery s
  rw [hmut, counterUpdate_sh_of_read (asQuery_ct .read s), asQuery_sh] at hsh
  rw [hmut, hsh] at hstate
  rw [hreset] at hrecord
  exact ⟨t, hexec, hstate, hrecord⟩

/-- Settles O22: the three are the Read-class queries, and only QFULL's row of R166 has the CPLD read. -/
theorem statusQueryResult : Obligations.StatusQueryResult := fun s =>
  ⟨readQueryCompletes (i := .qThr) rfl (by decide) s, readQueryCompletes (i := .qRd) rfl (by decide) s,
    readQueryCompletes (i := .qFull) rfl (by decide) s⟩

/-! ## The CPLD-revision query (R223) -/

/-- The counter update tells Read from the other command types only, so what is not Read counts as a write does (R164, 90_conflicts.md C3). -/
theorem counterUpdate_sh_eq_asWrite {m : State} (hct : m.ct ≠ .read) : (counterUpdate m).sh = (counterUpdate (asWrite m)).sh := by
  have hwrite : (asWrite m).ct ≠ .read := by simp
  rw [counterUpdate_sh, counterUpdate_sh, if_neg hct, if_neg hwrite]
  rfl

/-- Settles O23: QCPLD's `CT` is not Read, so its counter is a write's. -/
theorem cpldQueryResult : Obligations.CpldQueryResult := by
  intro s
  obtain ⟨t, hexec, hstate, hsh, hrecord⟩ := query_completes (i := .qCpld) rfl s
  have hct : (mutated .qCpld s).ct ≠ .read := by simp [mutated]
  have hcount : t.sh.toNat = countedFrom s.sync s.sh := by
    rw [hsh, counterUpdate_sh_eq_asWrite hct]
    exact counterUpdate_sh_toNat (asWrite_ct _)
  exact ⟨t, hexec, hstate, hcount, hrecord⟩

end Sys2Proof.Proofs
end

section
/-! PROOF. The kinds of 45_meta_commands.md that send no frame: how a meta-command and an error result end (R240, R250), and that rule at
each meta-command (R241 to R243), at each reserved code and at the sentinel (R244). -/

namespace Sys2Proof.Proofs

open Sys2Proof Sys2Proof.Machine Sys2Proof.Safety

/-! ## How a kind without a frame ends (R240, R250) -/

/-- A kind that ends as a meta-command records its meta code, the index and its own code. -/
theorem recordCompletes_of_metaStep {i : Instr} {m : MetaCode} {s : State} (h : exec i s = metaStep i m s) :
    RecordCompletes i .ok m s.out.index (some (encodeOpk i)) s := h

/-- A kind that raises an error records the error, with the index and the code it raises it with. -/
theorem recordCompletes_of_raise {i : Instr} {e : Err} {index : Option Nat} {opk : Option Opk} {s : State}
    (h : exec i s = raise e index opk s) : RecordCompletes i e .none index opk s := h.trans (raise_eq e index opk s)

/-! ## The meta-commands (R241 to R243) -/

theorem exec_mHelp (s : State) : exec .mHelp s = metaStep .mHelp .help s := rfl
theorem exec_mExit (s : State) : exec .mExit s = metaStep .mExit .exit s := rfl
theorem exec_mDebug (s : State) : exec .mDebug s = metaStep .mDebug .debug s := rfl

/-- Settles O24: each meta-command ends as one, with its own meta code. -/
theorem metaCommandResult : Obligations.MetaCommandResult := fun s =>
  ⟨recordCompletes_of_metaStep (exec_mHelp s), recordCompletes_of_metaStep (exec_mExit s),
    recordCompletes_of_metaStep (exec_mDebug s)⟩

/-! ## The reserved codes and the sentinel (R244) -/

/-- Every instruction of the reserved class raises BADOPK with the index the fetch has set and its own code (60_exceptions.md R253). -/
theorem reserved_completes {i : Instr} (hreserved : opkClass i = .reserved) (s : State) :
    RecordCompletes i .badOpk .none s.out.index (some (encodeOpk i)) s :=
  recordCompletes_of_raise (exec_of_reserved hreserved s)

/-- Settles O25: the nine are of the reserved class, and each is recorded under its code. -/
theorem reservedCodeResult : Obligations.ReservedCodeResult := fun s =>
  ⟨reserved_completes (i := .reserved00) rfl s, reserved_completes (i := .reserved17) rfl s,
    reserved_completes (i := .reserved18) rfl s, reserved_completes (i := .reserved19) rfl s,
    reserved_completes (i := .reserved1A) rfl s, reserved_completes (i := .reserved1B) rfl s,
    reserved_completes (i := .reserved1C) rfl s, reserved_completes (i := .reserved1D) rfl s,
    reserved_completes (i := .reserved1E) rfl s⟩

/-- Settles O26: END is the sentinel, which raises BADINDEX with neither index nor code (60_exceptions.md R252). -/
theorem sentinelResult : Obligations.SentinelResult := fun s => recordCompletes_of_raise (exec_of_sentinel rfl s)

end Sys2Proof.Proofs
end

section
/-! PROOF. The error results and the session's end of 60_exceptions.md: what a step does on a line that is not found (R251) and on an index
of no command entry (R252), and the one command after which the host ends a session (R266). -/

namespace Sys2Proof.Proofs

open Sys2Proof Sys2Proof.Machine Sys2Proof.Safety

/-! ## NOTFOUND and BADINDEX at a step (R251, R252) -/

theorem eventStep_line_of_ready {text : List Byte} {s : State} (h : commandReady s = true) :
    eventStep (.line text) s = applyLine text s := whenReady_of_ready h _

/-- Settles O37: a ready line step is `Step`, whose lookup finds nothing. -/
theorem unknownLineRaisesNotFound : Obligations.UnknownLineRaisesNotFound := by
  intro s rest text hi hready hunknown
  calc step s = eventStep (.line text) { s with inbox := rest } := step_cons hi
    _ = applyLine text { s with inbox := rest } := eventStep_line_of_ready hready
    _ = raise .notFound none none { s with inbox := rest } := applyLine_of_none hunknown
    _ = .next (setOut { s with inbox := rest } { Out.idle with err := .notFound }) := raise_eq _ _ _ _

/-- Settles O38: a ready index step is `Apply`, and past the table or at the sentinel there is no command entry. -/
theorem badIndexStep : Obligations.BadIndexStep := by
  intro s rest i hi hready hbad
  have hentry : entryOpk s.cfg.cmdRom i = none := entryOpk_eq_none.2 hbad
  calc step s = eventStep (.index i) { s with inbox := rest } := step_cons hi
    _ = applyIndex i { s with inbox := rest } := eventStep_index_of_ready hready
    _ = raise .badIndex none none { s with inbox := rest } := applyIndex_of_none hentry
    _ = .next (setOut { s with inbox := rest } { Out.idle with err := .badIndex }) := raise_eq _ _ _ _

/-! ## The session's end (R242, R266) -/

theorem metaStep_metaCode {i : Instr} {m : MetaCode} {s t : State} (h : metaStep i m s = .next t) : t.out.metaCode = m := by
  obtain rfl := Host.Outcome.next.inj h
  rfl

theorem raise_metaCode {e : Err} {index : Option Nat} {opk : Option Opk} {s t : State} (h : raise e index opk s = .next t) :
    t.out.metaCode = .none := by
  obtain rfl := Host.Outcome.next.inj h
  rfl

theorem exec_dispatching_metaCode {i : Instr} {s t : State} (hd : isDispatching i = true) (h : exec i s = .next t) :
    t.out.metaCode = .none := by
  rw [exec_dispatching i hd, dispatch_eq] at h
  obtain rfl := Host.Outcome.next.inj h
  rfl

/-- Only a meta-command leaves a meta code. -/
theorem metaCommand_of_metaCode {i : Instr} {s t : State} (h : exec i s = .next t) (hm : t.out.metaCode ≠ .none) :
    opkClass i = .metaCommand := by
  cases hclass : opkClass i with
  | write => exact absurd (exec_dispatching_metaCode ((isDispatching_iff i).2 (.inl hclass)) h) hm
  | query => exact absurd (exec_dispatching_metaCode ((isDispatching_iff i).2 (.inr hclass)) h) hm
  | metaCommand => rfl
  | reserved => exact absurd (raise_metaCode ((exec_of_reserved hclass s).symm.trans h)) hm
  | sentinel => exact absurd (raise_metaCode ((exec_of_sentinel hclass s).symm.trans h)) hm

/-- Only MEXIT leaves the meta code EXIT: the other two meta-commands leave their own. -/
theorem eq_mExit_of_metaCode {i : Instr} {s t : State} (h : exec i s = .next t) (hm : t.out.metaCode = .exit) : i = .mExit := by
  have hmeta : opkClass i = .metaCommand := metaCommand_of_metaCode h (by simp [hm])
  cases i with
  | mExit => rfl
  | mHelp => simp [metaStep_metaCode ((exec_mHelp s).symm.trans h)] at hm
  | mDebug => simp [metaStep_metaCode ((exec_mDebug s).symm.trans h)] at hm
  | _ => simp [opkClass] at hmeta

/-- An instruction after which the host ends the session records MEXIT's code, without error or frame, and writes no register (R242). -/
theorem exec_ends_session {i : Instr} {s t : State} (h : exec i s = .next t) (hend : sessionEnded t) :
    t.out.opk = some 0x15 ∧ t.out.err = .ok ∧ t.out.frame = none ∧ t.st = s.st := by
  obtain rfl := eq_mExit_of_metaCode h hend
  obtain rfl := Host.Outcome.next.inj ((exec_mExit s).symm.trans h)
  exact ⟨rfl, rfl, rfl, rfl⟩

/-- Settles O42: reset and an error result leave no meta code, a move of the host or of the UUT leaves the record it found, and an instruction
that leaves EXIT is MEXIT. -/
theorem sessionEndsOnExitOnly : Obligations.SessionEndsOnExitOnly := by
  intro s t h hrunning hend
  have recordChanges : t.out ≠ s.out := fun hsame => hrunning ((congrArg Out.metaCode hsame).symm.trans hend)
  obtain ⟨-, rfl⟩ | ⟨e, rest, -, he⟩ := step_cases h
  · exact absurd rfl recordChanges
  · obtain ⟨-, rfl⟩ | ⟨err, -, rfl⟩ | ⟨j, k, -, hx⟩ | ⟨act, -, hh⟩ | ⟨slot, v, -, hu⟩ := eventStep_cases he
    · cases hend
    · cases hend
    · exact exec_ends_session (s := fetched j k { s with inbox := rest }) hx hend
    · obtain ⟨-, hrecord, -⟩ := hostStep_frame hh
      exact absurd hrecord recordChanges
    · obtain rfl := uutStep_next hu
      exact absurd rfl recordChanges

end Sys2Proof.Proofs
end

section
/-! PROOF. Reset and what follows it of 70_reset_and_hazards.md: the values `rst` gives (R280, R282), the invariant of a session in the reset
state, the counter in the first frame after reset (R284), and the frames of Read-class queries in a row (R289). -/

namespace Sys2Proof.Proofs

open Sys2Proof Sys2Proof.Machine Sys2Proof.Safety

/-! ## Reset (R280, R282) -/

/-- The registers of S0 (R280, 92_eei_decisions.md D14). -/
theorem rst_st (s : State) :
    (rst s).st = { ct := .read, mid := s.cfg.moduleId, thr := .v166, dw := .wet, sync := .noSync, sh := 0, rly := 0 } := rfl

theorem step_rst {s : State} {rest : List Event} (h : s.inbox = .rst :: rest) :
    step s = .next (rst { s with inbox := rest }) := step_cons h

/-- The reset state has nothing left for `rst` to change. -/
theorem rst_resetWith (c : Cfg) : rst (State.resetWith c) = State.resetWith c := rfl

/-- Settles O43: what `rst` leaves in the registers and the record, in the step that does it and in the reset state, its fixed point. -/
theorem resetGivesS0 : Obligations.ResetGivesS0 := by
  have hreset : State.reset = rst State.reset := (rst_resetWith Config.unit).symm
  refine ⟨fun s rest h => ⟨_, step_rst h, rst_st _, rst_out _, rst_cfg _⟩, ?registers, ?record⟩
  case registers => exact (congrArg State.st hreset).trans (rst_st _)
  case record => exact (congrArg State.out hreset).trans (rst_out _)

/-! ## The session invariant in the reset state -/

theorem sessionInv_resetWith (c : Cfg) : SessionInv (State.resetWith c) := by
  have hlink : Memory.wf (State.resetWith c).link := List.Pairwise.nil
  exact rst_resetWith c ▸ rst_sessionInv hlink

/-- Settles O53: `rst` makes the invariant of any state with a canonical link, and the empty link of the reset state is one. -/
theorem sessionInvHoldsAtReset : Obligations.SessionInvHoldsAtReset := ⟨sessionInv_resetWith, sessionInv_resetWith Config.unit⟩

/-! ## The first frame after reset (R284) -/

/-- The Read-class queries are the queries but QCPLD (R220 to R222). -/
theorem readQuery_iff (i : Instr) : (opkClass i = .query ∧ i ≠ .qCpld) ↔ i = .qThr ∨ i = .qRd ∨ i = .qFull := by
  constructor
  · rintro ⟨hquery, hread⟩
    simpa [hread] using eq_of_query hquery
  · rintro (rfl | rfl | rfl) <;> exact ⟨rfl, by decide⟩

/-- Of the dispatching kinds, the Read-class queries are those whose mutation makes `CT` Read (R91, R163). -/
theorem mutated_ct_eq_read_iff {i : Instr} (hd : isDispatching i = true) (s : State) :
    (mutated i s).ct = .read ↔ i = .qThr ∨ i = .qRd ∨ i = .qFull := by
  rw [← readQuery_iff]
  obtain hwrite | hquery := (isDispatching_iff i).1 hd
  · simp [mutated_ct_of_write hwrite, hwrite]
  · simp [mutated_ct_of_query hquery, hquery]

/-- A dispatching kind completes, and its control word's low byte is the counter after the transaction's own update (R112, R164, R165). -/
theorem exec_sends_counter {i : Instr} (hd : isDispatching i = true) (s : State) :
    ∃ t f, exec i s = .next t ∧ t.out.frame = some f ∧
      f.control.extractLsb' 0 8 = (counterUpdate (mutated i s)).sh.setWidth 8 :=
  ⟨_, _, (exec_dispatching i hd s).trans (dispatch_eq _ _ _), rfl, controlWord_shField _ _⟩

/-- From the reset counter 0 a kind that leaves NoSync counts to 1, unless it is a Read-class query. -/
theorem counterUpdate_sh_after_reset {i : Instr} (hd : isDispatching i = true) (hne : i ≠ .syncOn) (c : Cfg) :
    (counterUpdate (mutated i (State.resetWith c))).sh = if i = .qThr ∨ i = .qRd ∨ i = .qFull then 0 else 1 := by
  have hsync : (mutated i (State.resetWith c)).sync = .noSync := by simp [mutated_sync, hne]
  obtain ⟨-, hsh, -⟩ := mutated_frame i (State.resetWith c)
  have hnext : nextCount 0 = 1 := by decide
  rw [counterUpdate_sh, hsync, hsh, resetWith_sh, hnext]
  simp [mutated_ct_eq_read_iff hd]

/-- Settles O44: the first frame carries the counter that its own transaction has updated, from the reset value. -/
theorem firstFrameAfterReset : Obligations.FirstFrameAfterReset := by
  intro c i hd hne
  obtain ⟨t, f, hexec, hframe, hcount⟩ := exec_sends_counter hd (State.resetWith c)
  refine ⟨t, f, hexec, hframe, ?_⟩
  rw [hcount, counterUpdate_sh_after_reset hd hne]
  split_ifs <;> rfl

/-! ## Read-class queries in a row (R289) -/

/-- A Read-class query leaves the configuration and every register but `CT`, and sends the frame of that state. -/
theorem readQuery_next {i : Instr} {s t : State} (hi : i = .qThr ∨ i = .qRd ∨ i = .qFull) (h : exec i s = .next t) :
    t.cfg = s.cfg ∧ t.st = { s.st with ct := .read } ∧ t.out.frame = some (encodeFrame t.cfg t.st) := by
  obtain ⟨hquery, hread⟩ := (readQuery_iff i).2 hi
  obtain ⟨t', hexec, hstate, hrecord⟩ := readQueryCompletes hquery hread s
  obtain rfl : t' = t := Host.Outcome.next.inj (hexec.symm.trans h)
  exact ⟨(congrArg State.cfg hstate :), (congrArg State.st hstate :), congrArg Out.frame hrecord⟩

/-- Settles O28: the second query meets the first one's registers with `CT` already Read, so both frames encode the same state. -/
theorem consecutiveQueriesSendTheSameFrame : Obligations.ConsecutiveQueriesSendTheSameFrame := by
  intro s t u i j hi hj ht hu
  obtain ⟨-, htst, htframe⟩ := readQuery_next hi ht
  obtain ⟨hucfg, hust, huframe⟩ := readQuery_next hj hu
  have hsame : u.st = t.st := by rw [hust, htst]
  exact ⟨encodeFrame t.cfg t.st, htframe, by rw [huframe, hucfg, hsame]⟩

end Sys2Proof.Proofs
end

section
/-! PROOF. The moves that are stuck (93_implementation_defined.md I16): a command before the host is done, and each move of the host where
the host's permission for it is missing. -/

namespace Sys2Proof.Proofs

open Sys2Proof Sys2Proof.Machine Sys2Proof.Safety

/-! ## A command before the host is done (R265, R290) -/

theorem whenReady_of_not_ready {s : State} (h : commandReady s = false) (o : Outcome) :
    whenReady s o = .fault .commandBeforeDone := if_neg (by simp [h])

/-- Each of the three command events waits for the host. -/
theorem eventStep_eq_whenReady {s : State} {e : Event} {rest : List Event} (hnext : commandNext s = true)
    (hi : s.inbox = e :: rest) (u : State) : ∃ o, eventStep e u = whenReady u o := by
  cases e with
  | line text => exact ⟨_, rfl⟩
  | console text => exact ⟨_, rfl⟩
  | index i => exact ⟨_, rfl⟩
  | rst | host | uut => simp [commandNext, hi] at hnext

/-- Settles O49: taking the command off the moves to come leaves the host as far as it was, so the command finds it not ready. -/
theorem prematureCommandIsStuck : Obligations.PrematureCommandIsStuck := by
  intro s hnext hready
  cases hi : s.inbox with
  | nil => simp [commandNext, hi] at hnext
  | cons e rest =>
    have hready' : commandReady { s with inbox := rest } = false := hready
    obtain ⟨o, ho⟩ := eventStep_eq_whenReady hnext hi { s with inbox := rest }
    rw [step_cons hi, ho, whenReady_of_not_ready hready']

/-! ## A move of the host that is not permitted answers its fault -/

theorem pulse_fault {s : State} (h : mayPulse s = false) : hostStep .pulse s = .fault .pulseOutOfPlace :=
  if_neg (by simp [h])

theorem writeWord_fault {s : State} {k : Nat} (h : mayWrite s k = false) :
    hostStep (.writeWord k) s = .fault .writeOutOfPlace := if_pos (by simp [h])

theorem readStatus_fault {s : State} {k : Nat} (h : mayReadStatus s k = false) :
    hostStep (.readStatus k) s = .fault .statusReadOutOfPlace := if_pos (by simp [h])

theorem readCpld_fault {s : State} {k : Nat} (h : mayReadCpld s k = false) :
    hostStep (.readCpld k) s = .fault .cpldReadOutOfPlace := if_pos (by simp [h])

theorem present_fault {s : State} (h : mayPresent s = false) (p : CpldWords) :
    hostStep (.present p) s = .fault .presentOutOfPlace := if_neg (by simp [h])

theorem linkFailed_fault {s : State} (h : s.out.frame = none) : hostStep .linkFailed s = .fault .noFrameToSend :=
  if_neg (by simp [h])

theorem resend_fault {s : State} (h : s.out.frame = none) : hostStep .resend s = .fault .noFrameToSend :=
  if_neg (by simp [h])

/-! ## When a move is not permitted: no frame in hand, or the move's own place missed -/

theorem mayPulse_eq_false_iff (s : State) :
    mayPulse s = false ↔ (s.out.frame = none ∨ s.txn.abandoned = true) ∨
      s.out.resetReq = false ∨ s.txn.pulsed = true ∨ 0 < s.txn.written := by
  rw [← Bool.not_eq_true, mayPulse_iff]
  simp [not_and_or, Nat.pos_iff_ne_zero, or_assoc, -not_and]

theorem mayWrite_eq_false_iff (s : State) (k : Nat) :
    mayWrite s k = false ↔ (s.out.frame = none ∨ s.txn.abandoned = true) ∨
      (s.out.resetReq = true ∧ s.txn.pulsed = false) ∨ k ≠ s.txn.written ∨ 5 ≤ k := by
  rw [← Bool.not_eq_true, mayWrite_iff]
  simp only [ne_eq, not_and_or, not_not, Bool.not_eq_false, not_lt, Classical.not_imp, Bool.not_eq_true]
  tauto

theorem mayReadStatus_eq_false_iff (s : State) (k : Nat) :
    mayReadStatus s k = false ↔ (s.out.frame = none ∨ s.txn.abandoned = true) ∨
      s.txn.written ≠ 5 ∨ s.txn.waited < s.cfg.delayD ∨ k ≠ s.txn.statusRead.length ∨ 7 ≤ k := by
  rw [← Bool.not_eq_true, mayReadStatus_iff]
  simp only [ne_eq, not_and_or, not_not, not_lt, not_le, Bool.not_eq_false]
  tauto

theorem mayReadCpld_eq_false_iff (s : State) (k : Nat) :
    mayReadCpld s k = false ↔ (s.out.frame = none ∨ s.txn.abandoned = true) ∨
      s.out.readCpld = false ∨ s.txn.written ≠ 5 ∨ s.txn.statusRead.length ≠ 7 ∨ k ≠ s.txn.cpldRead.length ∨ 2 ≤ k := by
  rw [← Bool.not_eq_true, mayReadCpld_iff]
  simp only [ne_eq, not_and_or, not_not, not_lt, Bool.not_eq_false, Bool.not_eq_true]
  tauto

theorem mayPresent_eq_false_iff (s : State) :
    mayPresent s = false ↔ (s.out.frame = none ∨ s.txn.abandoned = true) ∨
      s.txn.written ≠ 5 ∨ s.txn.statusRead.length ≠ 7 ∨ (s.out.readCpld = true ∧ s.txn.cpldRead.length ≠ 2) ∨
        s.txn.presented = true := by
  rw [← Bool.not_eq_true, mayPresent_iff]
  simp [not_and_or, or_assoc, -not_and]

/-- Settles O50: each clause names a case in which its move is not permitted; without a frame in hand no move on the link is. -/
theorem hostMovesOutOfPlaceAreStuck : Obligations.HostMovesOutOfPlaceAreStuck := by
  intro s
  refine ⟨fun h => pulse_fault ((mayPulse_eq_false_iff s).2 (.inr h)),
    fun k h => writeWord_fault ((mayWrite_eq_false_iff s k).2 (.inr h)),
    fun k h => readStatus_fault ((mayReadStatus_eq_false_iff s k).2 (.inr h)),
    fun k h => readCpld_fault ((mayReadCpld_eq_false_iff s k).2 (.inr h)),
    fun h => present_fault ((mayPresent_eq_false_iff s).2 (.inr h)), fun h => ?notInHand,
    fun h => ⟨linkFailed_fault h, resend_fault h⟩⟩
  case notInHand =>
    exact ⟨pulse_fault ((mayPulse_eq_false_iff s).2 (.inl h)),
      present_fault ((mayPresent_eq_false_iff s).2 (.inl h)),
      fun k => ⟨writeWord_fault ((mayWrite_eq_false_iff s k).2 (.inl h)),
        readStatus_fault ((mayReadStatus_eq_false_iff s k).2 (.inl h)),
        readCpld_fault ((mayReadCpld_eq_false_iff s k).2 (.inl h))⟩⟩

end Sys2Proof.Proofs
end
